-- ==== Sys2Proof/Word.lean ====
section
/-! DEFINITION. The words of the PCC-48: the characters of the serial line, the cell clock, and the numbers
of presses, zones, recipe slots and attention levels (About This Manual, 7.1 and 7.3). -/

namespace Sys2Proof

/-- A character of the serial line, and a one-byte field of a request (R166, R184). -/
abbrev Byte := BitVec 8

/-- A cell-clock value: a 32-bit count of milliseconds that wraps (About This Manual, 7.3). -/
abbrev Clock := BitVec 32

/-- The number of a press, 0..3 (7.1). -/
abbrev PressId := Fin 4

/-- The number of a zone within a press, 0..7 (7.1). -/
abbrev ZoneId := Fin 8

/-- The number of a recipe slot, 0..7 (7.1). -/
abbrev SlotId := Fin 8

/-- The number of an attention level, 0..11 (7.1). -/
abbrev LevelId := Fin 12

end Sys2Proof
end

