-- ==== Sys2Proof/Operand.lean ====
section
/-! DEFINITION. The operands that commands carry: what a press input, a converter and the load-cell converter
deliver, and the recipe record as it crosses the line. -/

namespace Sys2Proof

/-- The three discrete inputs of a press (1.1). -/
inductive PressInput where
  | closed
  | ejectContact
  | partClear
  deriving DecidableEq, Repr

/-- A sample of the converter bus by its class (R42). `temperature` carries a value in t°C. -/
inductive ZoneSample where
  | temperature (value : Int)
  | openCircuit
  | range
  deriving DecidableEq, Repr

/-- A sample of the load-cell converter by its class (R103): RAW carries a signed 24-bit value. -/
inductive LoadSample where
  | raw (value : BitVec 24)
  | overload
  deriving DecidableEq, Repr

/-- The recipe record at the widths of the wire (10.5): the 23 fields of R28 before any check. Durations and
offsets of the profile stand in two vectors, entry k - 1 for segment k; an offset is sign and magnitude (R183). -/
structure RecipeWire where
  baseTemp     : BitVec 16
  spLimit      : BitVec 16
  standbyTemp  : BitVec 16
  zoneTrim     : Vector (BitVec 16) 8
  durations    : Vector (BitVec 16) 8
  offsets      : Vector (BitVec 16) 8
  kp           : Byte
  ki           : Byte
  maxDuty      : BitVec 16
  heaterWindow : BitVec 16
  readyBand    : BitVec 16
  dropBand     : BitVec 16
  readyQualify : BitVec 16
  dropQualify  : BitVec 16
  tRef         : BitVec 16
  doubling     : BitVec 16
  cureTarget   : BitVec 16
  minClose     : BitVec 16
  maxClose     : BitVec 16
  chargeMin    : BitVec 32
  chargeMax    : BitVec 32
  ejectDelay   : BitVec 16
  ejectWidth   : BitVec 16
  rounding     : Byte
  deriving DecidableEq, Repr

end Sys2Proof
end

