-- ==== Sys2Proof/Syntax.lean ====
section
/-! DEFINITION. The commands of the PCC-48: one constructor for each row of spec/opcode_table.json.
A request's operands have the widths of R184, so that a value out of range can be sent and refused; an event's
operands name the press, zone or input it happens at and the value it carries. -/

namespace Sys2Proof

/-- A command: an operation of the serial line, a request of the cell computer, or an event at the plant side. -/
inductive Instr where
  -- The supply and the line (R166..R172, R182).
  | powerOn (strap : Bool)
  | byteReceived (value : Byte)
  | characterDropped
  | gapTimerExpiry
  | replyEnd
  -- Requests of the message link (9.6).
  | ident
  | cellSet (rounding filterTime : Byte) (nextSerial : BitVec 32)
  | cellRead
  | restart
  -- Requests of the press sequencer (chapters 1 and 2).
  | pressSetup (press slot zones gating : Byte)
  | pressEnable (press : Byte)
  | pressDisable (press : Byte)
  | pressAbort (press : Byte)
  | ejectRetry (press : Byte)
  | ejectForce (press level : Byte)
  | pressStatus (press : Byte)
  -- Requests of the recipe table (2.4).
  | recipeWrite (slot : Byte) (recipe : RecipeWire)
  | recipeRead (slot : Byte)
  | recipeClear (slot : Byte)
  -- Requests of the zone controllers (chapter 3).
  | zoneMode (press zone mode : Byte) (duty : BitVec 16)
  | zoneStatus (press : Byte)
  -- Requests of the heat permit unit (chapter 4) and the cure unit (chapter 5).
  | heatPermit (duration : BitVec 16)
  | heatOff
  | heatStatus
  | cureStatus (press : Byte)
  -- Requests of the charge scale (6.6).
  | scaleSet (zero gain : BitVec 32) (band : BitVec 16) (qualify : Byte) (place empty tareLimit : BitVec 32)
  | scaleZero
  | scaleStatus
  -- Requests of the part history (7.5).
  | historyStatus
  | historyRead (position : Byte)
  | historyAck (serial : BitVec 32)
  -- Requests of the attention controller (chapter 8).
  | poll
  | endService (form level rotate : Byte)
  | setLowest (level : Byte)
  | attnSetup (mask edge : BitVec 16) (nesting autoEnd rotate : Byte)
  | attnRead
  -- Accepted edges of the press inputs, with the captured time (R2).
  | closedRise (press : PressId) (captured : Clock)
  | closedFall (press : PressId) (captured : Clock)
  | ejectContactRise (press : PressId) (captured : Clock)
  | ejectContactFall (press : PressId) (captured : Clock)
  | partClearRise (press : PressId) (captured : Clock)
  | partClearFall (press : PressId) (captured : Clock)
  -- The ejector stroke's own events (R16, R18).
  | delayEnd (press : PressId)
  | pulseEnd (press : PressId)
  -- The converter bus, the heater windows and the load cell (R42, R56, R57, R103).
  | zoneSample (press : PressId) (zone : ZoneId) (sample : ZoneSample)
  | windowStart (press : PressId)
  | onTimeEnd (press : PressId) (zone : ZoneId)
  | loadCellSample (sample : LoadSample)
  -- The heat permit countdown (R64) and the sampling of the press inputs (R1).
  | permitLapse
  | pressInputSample (press : PressId) (input : PressInput) (level : Bool)
  | permitCountdownStep
  deriving DecidableEq, Repr

end Sys2Proof
end

