-- ==== Sys2Proof/Decode.lean ====
section
/-! DEFINITION. Reading a request from the kind and payload of a good frame, and writing the kind and payload
of a request (chapter 10). The opcode table gives no row any bits, so `decodeTableWord` reads no command from a
word; what the spec encodes is the requests, in frames, and `decodeRequest` reads those. -/

namespace Sys2Proof

/-- The two bytes of a 16-bit integer, least significant first (R183). -/
def le16 (v : BitVec 16) : List Byte := [v.extractLsb' 0 8, v.extractLsb' 8 8]

/-- The four bytes of a 32-bit integer, least significant first (R183). -/
def le32 (v : BitVec 32) : List Byte :=
  [v.extractLsb' 0 8, v.extractLsb' 8 8, v.extractLsb' 16 8, v.extractLsb' 24 8]

/-- The byte at an offset of a payload; 0 past its end, which no payload of the right length has. -/
def byteAt (payload : List Byte) (offset : Nat) : Byte := payload.getD offset 0

/-- The 16-bit integer at an offset of a payload (R183). -/
def u16At (payload : List Byte) (offset : Nat) : BitVec 16 :=
  byteAt payload (offset + 1) ++ byteAt payload offset

/-- The 32-bit integer at an offset of a payload (R183). -/
def u32At (payload : List Byte) (offset : Nat) : BitVec 32 :=
  byteAt payload (offset + 3) ++ byteAt payload (offset + 2) ++ byteAt payload (offset + 1) ++ byteAt payload offset

/-- The recipe record that starts at an offset of a payload, by the table of 10.5. -/
def recipeAt (payload : List Byte) (base : Nat) : RecipeWire where
  baseTemp     := u16At payload base
  spLimit      := u16At payload (base + 2)
  standbyTemp  := u16At payload (base + 4)
  zoneTrim     := Vector.ofFn fun z : Fin 8 => u16At payload (base + 6 + 2 * z.val)
  durations    := Vector.ofFn fun k : Fin 8 => u16At payload (base + 22 + 4 * k.val)
  offsets      := Vector.ofFn fun k : Fin 8 => u16At payload (base + 24 + 4 * k.val)
  kp           := byteAt payload (base + 54)
  ki           := byteAt payload (base + 55)
  maxDuty      := u16At payload (base + 56)
  heaterWindow := u16At payload (base + 58)
  readyBand    := u16At payload (base + 60)
  dropBand     := u16At payload (base + 62)
  readyQualify := u16At payload (base + 64)
  dropQualify  := u16At payload (base + 66)
  tRef         := u16At payload (base + 68)
  doubling     := u16At payload (base + 70)
  cureTarget   := u16At payload (base + 72)
  minClose     := u16At payload (base + 74)
  maxClose     := u16At payload (base + 76)
  chargeMin    := u32At payload (base + 78)
  chargeMax    := u32At payload (base + 82)
  ejectDelay   := u16At payload (base + 86)
  ejectWidth   := u16At payload (base + 88)
  rounding     := byteAt payload (base + 90)

/-- The 91 bytes of a recipe record, by the table of 10.5. -/
def RecipeWire.bytes (r : RecipeWire) : List Byte :=
  le16 r.baseTemp ++ le16 r.spLimit ++ le16 r.standbyTemp ++ r.zoneTrim.toList.flatMap le16 ++
  (List.finRange 8).flatMap (fun k => le16 r.durations[k] ++ le16 r.offsets[k]) ++
  [r.kp, r.ki] ++ le16 r.maxDuty ++ le16 r.heaterWindow ++ le16 r.readyBand ++ le16 r.dropBand ++
  le16 r.readyQualify ++ le16 r.dropQualify ++ le16 r.tRef ++ le16 r.doubling ++ le16 r.cureTarget ++
  le16 r.minClose ++ le16 r.maxClose ++ le32 r.chargeMin ++ le32 r.chargeMax ++
  le16 r.ejectDelay ++ le16 r.ejectWidth ++ [r.rounding]

/-- The request a kind names, read from a payload, with the one payload length the kind requires (R184). -/
def requestOf (kind : Byte) (p : List Byte) : Option (Nat × Instr) :=
  match kind.toNat with
  | 0x01 => some (9, .ident)
  | 0x02 => some (9, .cellSet (byteAt p 0) (byteAt p 1) (u32At p 2))
  | 0x03 => some (9, .cellRead)
  | 0x04 => some (9, .restart)
  | 0x10 => some (9, .pressSetup (byteAt p 0) (byteAt p 1) (byteAt p 2) (byteAt p 3))
  | 0x11 => some (9, .pressEnable (byteAt p 0))
  | 0x12 => some (9, .pressDisable (byteAt p 0))
  | 0x13 => some (9, .pressAbort (byteAt p 0))
  | 0x14 => some (9, .ejectRetry (byteAt p 0))
  | 0x15 => some (9, .ejectForce (byteAt p 0) (byteAt p 1))
  | 0x16 => some (9, .pressStatus (byteAt p 0))
  | 0x20 => some (92, .recipeWrite (byteAt p 0) (recipeAt p 1))
  | 0x21 => some (9, .recipeRead (byteAt p 0))
  | 0x22 => some (9, .recipeClear (byteAt p 0))
  | 0x28 => some (9, .zoneMode (byteAt p 0) (byteAt p 1) (byteAt p 2) (u16At p 3))
  | 0x29 => some (9, .zoneStatus (byteAt p 0))
  | 0x30 => some (9, .heatPermit (u16At p 0))
  | 0x31 => some (9, .heatOff)
  | 0x32 => some (9, .heatStatus)
  | 0x38 => some (9, .cureStatus (byteAt p 0))
  | 0x40 => some (23, .scaleSet (u32At p 0) (u32At p 4) (u16At p 8) (byteAt p 10) (u32At p 11) (u32At p 15) (u32At p 19))
  | 0x41 => some (9, .scaleZero)
  | 0x42 => some (9, .scaleStatus)
  | 0x48 => some (9, .historyStatus)
  | 0x49 => some (9, .historyRead (byteAt p 0))
  | 0x4A => some (9, .historyAck (u32At p 0))
  | 0x50 => some (9, .poll)
  | 0x51 => some (9, .endService (byteAt p 0) (byteAt p 1) (byteAt p 2))
  | 0x52 => some (9, .setLowest (byteAt p 0))
  | 0x53 => some (9, .attnSetup (u16At p 0) (u16At p 2) (byteAt p 4) (byteAt p 5) (byteAt p 6))
  | 0x54 => some (9, .attnRead)
  | _ => none

/-- What the link makes of a good frame's kind and payload by the tests it owns (R175, tests 1 and 2). -/
inductive Decoded where
  | unknownKind
  | badLength
  | request (c : Instr)
  deriving DecidableEq, Repr

/-- Tests 1 and 2 of R175: the kind is defined, and the payload has the length the kind requires. -/
def decodeRequest (kind : Byte) (payload : List Byte) : Decoded :=
  match requestOf kind payload with
  | none => .unknownKind
  | some (length, c) => if payload.length = length then .request c else .badLength

/-- A request of fewer than 9 bytes of fields carries filler up to 9 bytes (R183); the model's filler is 0. -/
def fill9 (fields : List Byte) : List Byte := fields ++ List.replicate (9 - fields.length) 0

/-- The kind and payload of a request (R184); none for a command that is no request. -/
def requestBytes : Instr → Option (Byte × List Byte)
  | .ident => some (0x01, fill9 [])
  | .cellSet rounding filterTime serial => some (0x02, fill9 ([rounding, filterTime] ++ le32 serial))
  | .cellRead => some (0x03, fill9 [])
  | .restart => some (0x04, fill9 [])
  | .pressSetup press slot zones gating => some (0x10, fill9 [press, slot, zones, gating])
  | .pressEnable press => some (0x11, fill9 [press])
  | .pressDisable press => some (0x12, fill9 [press])
  | .pressAbort press => some (0x13, fill9 [press])
  | .ejectRetry press => some (0x14, fill9 [press])
  | .ejectForce press level => some (0x15, fill9 [press, level])
  | .pressStatus press => some (0x16, fill9 [press])
  | .recipeWrite slot recipe => some (0x20, slot :: recipe.bytes)
  | .recipeRead slot => some (0x21, fill9 [slot])
  | .recipeClear slot => some (0x22, fill9 [slot])
  | .zoneMode press zone mode duty => some (0x28, fill9 ([press, zone, mode] ++ le16 duty))
  | .zoneStatus press => some (0x29, fill9 [press])
  | .heatPermit duration => some (0x30, fill9 (le16 duration))
  | .heatOff => some (0x31, fill9 [])
  | .heatStatus => some (0x32, fill9 [])
  | .cureStatus press => some (0x38, fill9 [press])
  | .scaleSet zero gain band qualify place empty tareLimit =>
    some (0x40, le32 zero ++ le32 gain ++ le16 band ++ [qualify] ++ le32 place ++ le32 empty ++ le32 tareLimit)
  | .scaleZero => some (0x41, fill9 [])
  | .scaleStatus => some (0x42, fill9 [])
  | .historyStatus => some (0x48, fill9 [])
  | .historyRead position => some (0x49, fill9 [position])
  | .historyAck serial => some (0x4A, fill9 (le32 serial))
  | .poll => some (0x50, fill9 [])
  | .endService form level rotate => some (0x51, fill9 [form, level, rotate])
  | .setLowest level => some (0x52, fill9 [level])
  | .attnSetup mask edge nesting autoEnd rotate =>
    some (0x53, fill9 (le16 mask ++ le16 edge ++ [nesting, autoEnd, rotate]))
  | .attnRead => some (0x54, fill9 [])
  | .powerOn _ | .byteReceived _ | .characterDropped | .gapTimerExpiry | .replyEnd
  | .closedRise _ _ | .closedFall _ _ | .ejectContactRise _ _ | .ejectContactFall _ _ | .partClearRise _ _
  | .partClearFall _ _ | .delayEnd _ | .pulseEnd _ | .zoneSample _ _ _ | .windowStart _ | .onTimeEnd _ _
  | .loadCellSample _ | .permitLapse | .pressInputSample _ _ _ | .permitCountdownStep => none

/-- Whether a command is a request of the cell computer (R176). -/
def Instr.isRequest (c : Instr) : Bool := (requestBytes c).isSome

/-- The command a word spells by the opcode table's bits: the table gives no row any bits, so none. -/
def decodeTableWord (_nbits _w : Nat) : Option Instr := none

end Sys2Proof
end

