-- ==== Sys2Proof/Config.lean ====
section
/-! DEFINITION. What the PCC-48 fixes once and for all: its counts, capacities and periods.
No value of the manual is left open to an implementation, so the file declares no free value. -/

namespace Sys2Proof.Config

/-- Records the history queue can hold (R132). -/
def historyCapacity : Nat := 64

/-- Count of records from which the near-full condition holds (R133). -/
def nearFullCount : Nat := 61

/-- The greatest duration, in seconds, a HEAT_PERMIT grants (R63). -/
def maxPermit : Nat := 600

/-- Countdown steps in one second of permit (R63, R64). -/
def stepsPerSecond : Nat := 10

/-- The permit countdown step, ms (R64). -/
def countdownPeriod : Nat := 100

/-- The gap, ms, after which an incomplete frame is abandoned (R170). -/
def gapLimit : Nat := 10

/-- The span from close, ms, at which a profile freezes whatever its segments (R71). -/
def profileLimit : Nat := 3600000

/-- The greatest accumulator value, cu (R95). -/
def accumulatorMax : Nat := 4294967295

/-- The greatest step count (R95). -/
def stepCountMax : Nat := 65535

/-- The greatest serial (R134). -/
def serialMax : Nat := 4294967295

/-- The greatest discarded-frame count (R171). -/
def discardedMax : Nat := 65535

/-- The greatest retries count (R19). -/
def retriesMax : Nat := 255

/-- The bound of every held mass, g (R104). -/
def massMax : Int := 8388607

/-- The duty bound of a press without a setup, per mille (R54). -/
def fullDuty : Nat := 1000

/-- The greatest value of the integral, per mille × 256 (R50). -/
def integralMax : Int := 256000

/-- Cure units in one sixteenth of an equivalent second (R96). -/
def cuPerSixteenth : Nat := 8192

end Sys2Proof.Config
end

