-- ==== Sys2Proof/Machine/State.lean ====
section
/-! DEFINITION. The state of the PCC-48 as plain data, block by block (About This Manual, section 3), and its
values at power-on. Each type cites the rule that names it; INVENTORY.md lists every field with its reset value. -/

namespace Sys2Proof.Machine

/-! ## Cell -/

/-- The four rounding modes (7.4), in the order of their codes 0..3. -/
inductive RoundingMode where
  | nearestEven
  | towardZero
  | down
  | up
  deriving DecidableEq, Repr

/-- The cell settings of CELL_SET that no other block owns (R178): the default rounding mode and the filter time. -/
structure CellSettings where
  rounding   : RoundingMode
  filterTime : Nat
  deriving DecidableEq, Repr

/-! ## Press sequencer -/

/-- The ten press states in the order of their codes (1.2, R185). -/
inductive PressState where
  | offline
  | heating
  | chargeWait
  | chargeReady
  | curing
  | demouldDue
  | ejecting
  | ejectFault
  | unloadWait
  | commitHeld
  deriving DecidableEq, Repr

/-- Whether admission waits for readiness (R38). -/
inductive Gating where
  | autoGate
  | monitor
  deriving DecidableEq, Repr

/-- A press's setup (R36); bit z of `zones` stands for zone z. -/
structure Setup where
  slot   : SlotId
  zones  : BitVec 8
  gating : Gating
  deriving DecidableEq, Repr

/-- The filter of one press input (R1). `sampled` says that the first sample after power-on has been taken. -/
structure InputFilter where
  sampled   : Bool
  level     : Bool
  candidate : Option Clock
  deriving DecidableEq, Repr

/-- The six capture times of a press (R2). -/
structure Captures where
  closedRise  : Clock
  closedFall  : Clock
  contactRise : Clock
  contactFall : Clock
  clearRise   : Clock
  clearFall   : Clock
  deriving DecidableEq, Repr

/-- The ejector stroke (1.6): the delay with the time it ends, or the pulse with the time it ends, the time
EJECTOR turned on, and whether contact has been recorded in it. -/
inductive Stroke where
  | delay (ends : Clock)
  | pulse (ends start : Clock) (contact : Bool)
  deriving DecidableEq, Repr

/-- The eleven flags of a cycle context and of a part record (chapter 7, the flags), in the order of R185. -/
structure RecordFlags where
  undercure     : Bool := false
  aborted       : Bool := false
  earlyOpen     : Bool := false
  cureStalled   : Bool := false
  tempExcursion : Bool := false
  permitLapse   : Bool := false
  heatOff       : Bool := false
  rateClamped   : Bool := false
  tareStale     : Bool := false
  ejectRetried  : Bool := false
  sensorFault   : Bool := false
  deriving DecidableEq, Repr

/-- The fields a cycle context shares with the part record made from it (7.1). -/
structure PanelRecord where
  serial            : Nat
  press             : PressId
  recipe            : SlotId
  mass              : Int
  weighTime         : Clock
  closeTime         : Option Clock := none
  openTime          : Option Clock := none
  accumulatorAtOpen : Option Nat := none
  stepCountAtOpen   : Option Nat := none
  devMin            : Option Int := none
  devMax            : Option Int := none
  segmentReached    : Nat := 0
  contactDelay      : Option Nat := none
  retries           : Nat := 0
  commitTime        : Option Clock := none
  flags             : RecordFlags := {}
  deriving DecidableEq, Repr

/-- The cycle context of a press (R10, R24): the panel's record so far with the running accumulator and step
count, which are present from the entry into CURING (R95). -/
structure CycleContext where
  panel       : PanelRecord
  accumulator : Option Nat := none
  stepCount   : Option Nat := none
  deriving DecidableEq, Repr

/-- The change flags of a press (R25), in the order of R185. -/
structure ChangeFlags where
  readyRose       : Bool := false
  readyFell       : Bool := false
  unexpectedClose : Bool := false
  zoneFaultChange : Bool := false
  deriving DecidableEq, Repr

/-! ## Zone controller -/

/-- The supervision of a zone's sensor (R44). -/
inductive SensorState where
  | good
  | suspect
  | fault
  deriving DecidableEq, Repr

/-- The mode of a zone (R52), in the order of its codes. -/
inductive ZoneMode where
  | auto
  | manual
  | off
  deriving DecidableEq, Repr

/-- A zone controller (chapter 3, opening table). `heater` is the level of HEAT(8p + z). -/
structure Zone where
  sensor     : SensorState
  badCount   : Nat
  goodCount  : Nat
  lastSample : Option ZoneSample
  lastGood   : Int
  integral   : Int
  pending    : Nat
  applied    : Nat
  mode       : ZoneMode
  manual     : Nat
  heater     : Bool
  deriving DecidableEq, Repr

/-! ## Cure unit -/

/-- The outcome of the demould decision in the last-step record (R97, R100), in the order of R100. -/
inductive Decision where
  | due
  | dueAtMaxClose
  | notDue
  | noDecision
  deriving DecidableEq, Repr

/-- The fields of a last-step record that are present when a zone counted (R100). -/
structure StepRate where
  coldest     : ZoneId
  teff        : Int
  delta       : Int
  mode        : RoundingMode
  rawExponent : Int
  exponent    : Int
  whole       : Int
  fraction    : Nat
  mantissa    : Nat
  deriving DecidableEq, Repr

/-- The last-step record of a cure unit (R100). -/
structure StepRecord where
  time      : Clock
  number    : Nat
  counted   : Nat
  rate      : Option StepRate
  increment : Nat
  decision  : Decision
  deriving DecidableEq, Repr

/-! ## Everything that is held once per press -/

/-- One press: its sequencer (chapter 1), its eight zone controllers (chapter 3), its setpoint and readiness unit
(chapter 4) and its cure unit (chapter 5). -/
structure Press where
  state       : PressState
  setup       : Option Setup
  closed      : InputFilter
  contact     : InputFilter
  partClear   : InputFilter
  captures    : Captures
  stroke      : Option Stroke
  context     : Option CycleContext
  changes     : ChangeFlags
  forced      : Bool
  openPermit  : Bool
  ejector     : Bool
  windowStart : Option Clock
  zones       : Vector Zone 8
  setpoints   : Vector Int 8
  segment     : Nat
  frozen      : Bool
  ready       : Bool
  run         : Nat
  lastStep    : Option StepRecord
  deriving DecidableEq, Repr

/-! ## Recipe table -/

/-- A stored recipe: the 23 fields of R28 after checking and clamping. `durations` and `offsets` hold segment k
at entry k - 1. -/
structure Recipe where
  baseTemp     : Int
  spLimit      : Int
  standbyTemp  : Int
  zoneTrim     : Vector Int 8
  durations    : Vector Nat 8
  offsets      : Vector Int 8
  kp           : Nat
  ki           : Nat
  maxDuty      : Nat
  heaterWindow : Nat
  readyBand    : Nat
  dropBand     : Nat
  readyQualify : Nat
  dropQualify  : Nat
  tRef         : Int
  doubling     : Nat
  cureTarget   : Nat
  minClose     : Nat
  maxClose     : Nat
  chargeMin    : Int
  chargeMax    : Int
  ejectDelay   : Nat
  ejectWidth   : Nat
  rounding     : Nat
  deriving DecidableEq, Repr

/-! ## Heat permit unit -/

/-- The heat state (R62), in the order of its codes. -/
inductive HeatState where
  | off
  | run
  | standby
  deriving DecidableEq, Repr

/-- The heat permit unit (R62). `nextStep` is the cell-clock time of the countdown's next decrease (R64); it has a
meaning in RUN alone. -/
structure HeatUnit where
  state     : HeatState
  remaining : Nat
  lapse     : Bool
  nextStep  : Clock
  deriving DecidableEq, Repr

/-! ## Charge scale -/

/-- The scale states (6.3), in the order of their codes. -/
inductive ScaleState where
  | emptySettle
  | empty
  | loading
  | removeWait
  | tareFault
  deriving DecidableEq, Repr

/-- The seven settings of SCALE_SET (6.6.1). -/
structure ScaleSettings where
  zero           : Int
  gain           : Nat
  band           : Nat
  qualify        : Nat
  placeThreshold : Int
  emptyThreshold : Int
  tareLimit      : Int
  deriving DecidableEq, Repr

/-- The scale's last sample (R103): RAW with its gross and net mass, or OVERLOAD. -/
inductive ScaleSample where
  | raw (value gross net : Int)
  | overload
  deriving DecidableEq, Repr

/-- The verdicts (R113), in the order of their codes 1..5. -/
inductive Verdict where
  | noClaim
  | noSerial
  | under
  | over
  | accept
  deriving DecidableEq, Repr

/-- The verdict record the scale holds in REMOVE_WAIT (R113). -/
structure VerdictRecord where
  verdict   : Verdict
  mass      : Int
  time      : Clock
  press     : Option PressId
  serial    : Option Nat
  tareStale : Bool
  deriving DecidableEq, Repr

/-- The charge scale and the scale queue (chapter 6, opening table, R116). -/
structure Scale where
  settings   : ScaleSettings
  tare       : Int
  state      : ScaleState
  anchor     : Option Int
  count      : Nat
  lastSample : Option ScaleSample
  lastRaw    : Int
  stale      : Bool
  held       : Option VerdictRecord
  faultGross : Option Int
  queue      : List PressId
  deriving DecidableEq, Repr

/-! ## Part history -/

/-- The class of a part record (R127), in the order of its codes. -/
inductive RecordClass where
  | good
  | suspect
  | reject
  deriving DecidableEq, Repr

/-- A part record (R125): the panel's fields as its context held them at commit, and the class. -/
structure PartRecord where
  panel : PanelRecord
  grade : RecordClass
  deriving DecidableEq, Repr

/-- The part history (chapter 7, opening table). -/
structure History where
  records    : List PartRecord
  waitList   : List PressId
  nextSerial : Nat
  exhausted  : Bool
  deriving DecidableEq, Repr

/-! ## Attention controller -/

/-- One attention level (chapter 8, opening table). `edge` is EDGE trigger mode. -/
structure Level where
  condition : Bool
  edge      : Bool
  request   : Bool
  armed     : Bool
  masked    : Bool
  inService : Bool
  deriving DecidableEq, Repr

/-- The attention controller (chapter 8). `openNesting` is OPEN; `attn` is the level of the ATTN pin. -/
structure Attention where
  levels       : Vector Level 12
  lowest       : LevelId
  openNesting  : Bool
  autoEnd      : Bool
  rotateOnAuto : Bool
  attn         : Bool
  deriving DecidableEq, Repr

/-! ## Message link -/

/-- The receiver's states (9.2). -/
inductive RxState where
  | hunt
  | length
  | body
  | check
  deriving DecidableEq, Repr

/-- The receiver and its buffer (9.2): the length byte, the kind and payload bytes so far, the check bytes so far,
and the time of the latest byte while the gap timer runs. -/
structure Receiver where
  state   : RxState
  length  : Byte
  body    : List Byte
  check   : List Byte
  gapFrom : Option Clock
  deriving DecidableEq, Repr

/-- The link errors (R172). -/
inductive LinkError where
  | badCheck
  | frameLength
  deriving DecidableEq, Repr

/-- An entry of the link: a good request, by its kind and payload, or a link error (R171). -/
inductive Entry where
  | request (kind : Byte) (payload : List Byte)
  | linkError (e : LinkError)
  deriving DecidableEq, Repr

/-- The entry in hand with the reply frame being sent on TXD, and the time the reply's last stop bit leaves (R171). -/
structure InHand where
  entry  : Entry
  reply  : List Byte
  sentAt : Clock
  deriving DecidableEq, Repr

/-- The message link (chapter 9, opening table). `fast` is the line rate of 460,800 baud. -/
structure Link where
  fast      : Bool
  receiver  : Receiver
  hand      : Option InHand
  slot      : Option Entry
  discarded : Nat
  deriving DecidableEq, Repr

/-! ## The whole part -/

/-- The state of the part. `clock` is the cell clock (7.3); `scanPhase` is the milliseconds since
the start of the running converter scan (R41); `loadPhase` those since the latest load-cell sample time before now, or
since power-on before the first, so that 20 is a sample time (R103). `pending` is the
model's queue of commands that wait, first in, first out. -/
structure State where
  clock     : Clock
  scanPhase : Fin 250
  loadPhase : Fin 21
  cell      : CellSettings
  presses   : Vector Press 4
  recipes   : Vector (Option Recipe) 8
  heat      : HeatUnit
  scale     : Scale
  history   : History
  attention : Attention
  link      : Link
  pending   : List Instr
  deriving DecidableEq, Repr

/-- The reasons the part stops with a fault. There are none: every command of the manual takes a next state. -/
inductive Fault where
  deriving DecidableEq, Repr

/-- The reasons a command is refused by the model. -/
inductive Refusal where
  /-- Raised only by an arm of `exec` whose command has no meaning yet; no arm does. Safe: the machine stops. -/
  | notModelled (mnemonic : String)
  deriving DecidableEq, Repr

/-! ## Power-on values -/

/-- A press input's filter before its first sample (R1). DESIGN CHOICE: the accepted level reads low until the
first sample; unsafe, log 6. -/
def InputFilter.reset : InputFilter := { sampled := false, level := false, candidate := none }

/-- A zone controller at power-on and after RESTART (R60, R61). -/
def Zone.reset : Zone where
  sensor := .good
  badCount := 0
  goodCount := 0
  lastSample := none
  lastGood := 0
  integral := 0
  pending := 0
  applied := 0
  mode := .auto
  manual := 0
  heater := false

/-- A press at power-on (R4, R60, R82, R102). -/
def Press.reset : Press where
  state := .offline
  setup := none
  closed := .reset
  contact := .reset
  partClear := .reset
  captures := { closedRise := 0, closedFall := 0, contactRise := 0, contactFall := 0, clearRise := 0, clearFall := 0 }
  stroke := none
  context := none
  changes := {}
  forced := false
  openPermit := false
  ejector := false
  windowStart := none
  zones := Vector.replicate 8 .reset
  setpoints := Vector.replicate 8 0
  segment := 0
  frozen := false
  ready := false
  run := 0
  lastStep := none

/-- The heat permit unit at power-on and after RESTART (R62). DESIGN CHOICE: `nextStep` has no meaning outside RUN
and is 0; safe, log 22. -/
def HeatUnit.reset : HeatUnit := { state := .off, remaining := 0, lapse := false, nextStep := 0 }

/-- The power-on settings of the scale (6.6.1). -/
def ScaleSettings.reset : ScaleSettings where
  zero := 0
  gain := 65536
  band := 5
  qualify := 10
  placeThreshold := 200
  emptyThreshold := 50
  tareLimit := 500

/-- The charge scale at power-on (R123). -/
def Scale.reset : Scale where
  settings := .reset
  tare := 0
  state := .emptySettle
  anchor := none
  count := 0
  lastSample := none
  lastRaw := 0
  stale := false
  held := none
  faultGross := none
  queue := []

/-- The part history at power-on (R139). -/
def History.reset : History := { records := [], waitList := [], nextSerial := 1, exhausted := false }

/-- An attention level at power-on and after RESTART (R164): LEVEL mode, masked, armed, no request, not in service,
its condition false. -/
def Level.reset : Level :=
  { condition := false, edge := false, request := false, armed := true, masked := true, inService := false }

/-- The attention controller at power-on (R164), ATTN deasserted (R152). -/
def Attention.reset : Attention where
  levels := Vector.replicate 12 .reset
  lowest := 11
  openNesting := false
  autoEnd := false
  rotateOnAuto := false
  attn := false

/-- The receiver in HUNT with an empty buffer and the gap timer stopped (R167, R182). -/
def Receiver.reset : Receiver := { state := .hunt, length := 0, body := [], check := [], gapFrom := none }

/-- The message link at power-on with a strap level (R166, R182). -/
def Link.reset (strap : Bool) : Link :=
  { fast := strap, receiver := .reset, hand := none, slot := none, discarded := 0 }

/-- The part right after the release of RESET_N with a strap level (R182 and the power-on rule of each block). -/
def State.powerOn (strap : Bool) : State where
  clock := 0
  scanPhase := 0
  loadPhase := 0
  cell := { rounding := .nearestEven, filterTime := 20 }
  presses := Vector.replicate 4 .reset
  recipes := Vector.replicate 8 none
  heat := .reset
  scale := .reset
  history := .reset
  attention := .reset
  link := .reset strap
  pending := []

/-- The machine right after reset, its queue of commands empty. DESIGN CHOICE: the strap is low (115,200 baud),
since the strap is an input and the manual gives it no level; unsafe, log 5. -/
def State.reset : State := State.powerOn false

end Sys2Proof.Machine
end

