-- ==== Sys2Proof/Machine/Operands.lean ====
section
/-! DEFINITION. The forms a command's operands and a reply's contents take on the wire (chapters 9 and 10): which
object a field names, the codes of named values, the check and the frame, and the bytes of a reply's items. -/

namespace Sys2Proof.Machine

/-- The payload of a reply: the result byte and what follows it (R173). -/
abbrev Reply := List Byte

/-! ## Objects a field names -/

/-- The press a field names: none above 3 (1.3). -/
def pressOf (b : Byte) : Option PressId := if h : b.toNat < 4 then some ⟨b.toNat, h⟩ else none

/-- The zone a field names: none above 7 (R53). -/
def zoneOf (b : Byte) : Option ZoneId := if h : b.toNat < 8 then some ⟨b.toNat, h⟩ else none

/-- The recipe slot a field names: none above 7 (R29). -/
def slotOf (b : Byte) : Option SlotId := if h : b.toNat < 8 then some ⟨b.toNat, h⟩ else none

/-- The attention level a field names: none above 11 (R150). -/
def levelOf (b : Byte) : Option LevelId := if h : b.toNat < 12 then some ⟨b.toNat, h⟩ else none

/-- The gating a field names: none above 1 (R39). -/
def gatingOf (b : Byte) : Option Gating :=
  if b = 0 then some .autoGate else if b = 1 then some .monitor else none

/-- The zone mode a field names: none above 2 (R53). -/
def zoneModeOf (b : Byte) : Option ZoneMode :=
  if b = 0 then some .auto else if b = 1 then some .manual else if b = 2 then some .off else none

/-- The two-valued item a field names, 0 or 1: none above 1 (R20, R157, R161). -/
def bitOf (b : Byte) : Option Bool := if b = 0 then some false else if b = 1 then some true else none

/-- The rounding mode of a code 0..3 (7.4); none for any other number. -/
def roundingOfCode (n : Nat) : Option RoundingMode :=
  match n with
  | 0 => some .nearestEven
  | 1 => some .towardZero
  | 2 => some .down
  | 3 => some .up
  | _ => none

/-- A set of attention levels as ATTN_SETUP carries it: none when a bit above 11 is set (R161, R183). -/
def levelSetOf (w : BitVec 16) : Option (BitVec 12) :=
  if w.extractLsb' 12 4 = 0 then some (w.extractLsb' 0 12) else none

/-- The signed value of a profile offset in sign and magnitude; a magnitude of 0 is zero whatever its sign (R183). -/
def offsetValue (w : BitVec 16) : Int :=
  let magnitude : Int := ((w.extractLsb' 0 15).toNat : Int)
  if w.getLsbD 15 then -magnitude else magnitude

/-- A profile offset in sign and magnitude; zero is sent with the sign bit clear (R183). -/
def offsetWord (v : Int) : BitVec 16 :=
  if v < 0 then BitVec.ofNat 16 (32768 + v.natAbs) else BitVec.ofNat 16 v.natAbs

/-! ## Codes of named values (R185, R188) -/

/-- R185. -/
def PressState.code : PressState → Nat
  | .offline => 0 | .heating => 1 | .chargeWait => 2 | .chargeReady => 3 | .curing => 4 | .demouldDue => 5
  | .ejecting => 6 | .ejectFault => 7 | .unloadWait => 8 | .commitHeld => 9

/-- R185. -/
def ScaleState.code : ScaleState → Nat
  | .emptySettle => 0 | .empty => 1 | .loading => 2 | .removeWait => 3 | .tareFault => 4

/-- R185; code 0 stands for no verdict held. -/
def Verdict.code : Verdict → Nat
  | .noClaim => 1 | .noSerial => 2 | .under => 3 | .over => 4 | .accept => 5

/-- R185. -/
def HeatState.code : HeatState → Nat
  | .off => 0 | .run => 1 | .standby => 2

/-- R185. -/
def RecordClass.code : RecordClass → Nat
  | .good => 0 | .suspect => 1 | .reject => 2

/-- R185. -/
def Gating.code : Gating → Nat
  | .autoGate => 0 | .monitor => 1

/-- R185. -/
def ZoneMode.code : ZoneMode → Nat
  | .auto => 0 | .manual => 1 | .off => 2

/-- 7.4. -/
def RoundingMode.code : RoundingMode → Nat
  | .nearestEven => 0 | .towardZero => 1 | .down => 2 | .up => 3

/-- The position in the list of R59 (R188). -/
def SensorState.code : SensorState → Nat
  | .good => 0 | .suspect => 1 | .fault => 2

/-- The position in the list of R100 (R188). -/
def Decision.code : Decision → Nat
  | .due => 0 | .dueAtMaxClose => 1 | .notDue => 2 | .noDecision => 3

/-! ## The items of a reply (R183, R188) -/

/-- An unsigned item of one byte. -/
def num8 (n : Nat) : List Byte := [BitVec.ofNat 8 n]

/-- An unsigned item of two bytes. -/
def num16 (n : Nat) : List Byte := le16 (BitVec.ofNat 16 n)

/-- An unsigned item of four bytes. -/
def num32 (n : Nat) : List Byte := le32 (BitVec.ofNat 32 n)

/-- A signed item of one byte, in two's complement. -/
def int8 (i : Int) : List Byte := [BitVec.ofInt 8 i]

/-- A signed item of two bytes, in two's complement. -/
def int16 (i : Int) : List Byte := le16 (BitVec.ofInt 16 i)

/-- A signed item of four bytes, in two's complement. -/
def int32 (i : Int) : List Byte := le32 (BitVec.ofInt 32 i)

/-- A two-valued item: 1 for the value that R188 names, 0 for the other. -/
def flagByte (b : Bool) : List Byte := [if b then 1 else 0]

/-- An item given only in some cases: a presence byte, then the item, or `width` bytes of 0 when it is not given (R188). -/
def optionalItem {α : Type} (width : Nat) (write : α → List Byte) : Option α → List Byte
  | some a => 1 :: write a
  | none => 0 :: List.replicate width 0

/-- An item without a presence byte of its own: `width` bytes of 0 when it carries no value (R183). -/
def valueOrZeros {α : Type} (width : Nat) (write : α → List Byte) : Option α → List Byte
  | some a => write a
  | none => List.replicate width 0

/-- The set of the members of a list of Bools, bit i for entry i, as a number (R183). -/
def setNumber : List Bool → Nat
  | [] => 0
  | b :: rest => (if b then 1 else 0) + 2 * setNumber rest

/-- A level that may be none: 255 for none (R188). -/
def levelByte : Option LevelId → List Byte
  | some l => num8 l.val
  | none => [255]

/-- A list of at most four entries: its length, then four entries, unused ones 0 (R188). -/
def listItem {α : Type} (width : Nat) (write : α → List Byte) (l : List α) : List Byte :=
  num8 l.length ++ (l.take 4).flatMap write ++ List.replicate ((4 - l.length) * width) 0

/-! ## Result codes (R174) -/

/-- OK with its contents. -/
def okReply (contents : List Byte) : Reply := 0 :: contents

/-- UNKNOWN_KIND. -/
def unknownKindReply : Reply := [1]

/-- BAD_LENGTH. -/
def badLengthReply : Reply := [2]

/-- RANGE with the number of the first failing field (R173). -/
def rangeReply (field : Nat) : Reply := [3, BitVec.ofNat 8 field]

/-- RANGE of RECIPE_WRITE, with the failing field and the element (R29, R173). -/
def recipeRangeReply (field element : Nat) : Reply := [3, BitVec.ofNat 8 field, BitVec.ofNat 8 element]

/-- STATE. -/
def stateReply : Reply := [4]

/-- IN_USE. -/
def inUseReply : Reply := [5]

/-- NOT_FOUND. -/
def notFoundReply : Reply := [6]

/-- The result byte of a link error (R172, R174). -/
def LinkError.code : LinkError → Byte
  | .badCheck => 0x10
  | .frameLength => 0x11

/-! ## The frame -/

/-- One bit of the check: shift left, and combine with 0x1021 when the bit that leaves differs from the data bit (R169). -/
def checkBit (register : BitVec 16) (bit : Bool) : BitVec 16 :=
  let shifted := register <<< 1
  if register.msb ≠ bit then shifted ^^^ 0x1021 else shifted

/-- The bits of a byte from the most significant to the least (R169). -/
def bitsHighFirst (b : Byte) : List Bool := [7, 6, 5, 4, 3, 2, 1, 0].map fun i => b.getLsbD i

/-- The check over a sequence of bytes (R169). -/
def frameCheck (bytes : List Byte) : BitVec 16 :=
  bytes.foldl (fun register b => (bitsHighFirst b).foldl checkBit register) 0xFFFF

/-- The marker byte of a frame (9.2). -/
def marker : Byte := 0xA5

/-- A frame: marker, length, kind, payload and check, the check over length, kind and payload, low byte first (10.2). -/
def frame (kind : Byte) (payload : List Byte) : List Byte :=
  let covered := BitVec.ofNat 8 (payload.length + 1) :: kind :: payload
  marker :: covered ++ le16 (frameCheck covered)

/-- The kind of the reply to a request: the kind plus 0x80 modulo 256; 0xFF is answered with 0xFF (R173). -/
def answerKind (kind : Byte) : Byte := if kind = 0xFF then 0xFF else kind + 0x80

/-- The kind of a link error's reply (R172). -/
def linkErrorKind : Byte := 0x7F

/-- The kind of the reply that an entry is answered with (R172, R173). -/
def Entry.replyKind : Entry → Byte
  | .request kind _ => answerKind kind
  | .linkError _ => linkErrorKind

/-- The entry that a request command stands for: a good frame of its kind and payload (R169, R184). A command that
is no request stands for none; the value returned for it is used nowhere. -/
def requestEntry (c : Instr) : Entry :=
  match requestBytes c with
  | some (kind, payload) => .request kind payload
  | none => .request 0 []

/-! ## Time -/

/-- The span between two timestamps, (later − earlier) modulo 2^32 (7.3). -/
def spanMs (later earlier : Clock) : Nat := (later - earlier).toNat

/-- A clock value some milliseconds later. -/
def laterBy (t : Clock) (ms : Nat) : Clock := t + BitVec.ofNat 32 ms

/-- Whether a timestamp is at or after another, for spans below 2^31 ms (7.3). -/
def notBefore (t earlier : Clock) : Bool := decide (spanMs t earlier < 2 ^ 31)

end Sys2Proof.Machine
end

