-- ==== Sys2Proof/Machine/Flags.lean ====
section
/-! DEFINITION. The flags of the part: the record flags and the class they select (7.1, R127), the change flags
(R25), and the request, armed and presentation flags of the attention levels (8.1 to 8.5). -/

namespace Sys2Proof.Machine

/-! ## Record flags and class -/

/-- The record flags from bit 0 up (R185). -/
def RecordFlags.toList (f : RecordFlags) : List Bool :=
  [f.undercure, f.aborted, f.earlyOpen, f.cureStalled, f.tempExcursion, f.permitLapse, f.heatOff, f.rateClamped,
   f.tareStale, f.ejectRetried, f.sensorFault]

/-- The class of a record, from its flag set alone (R127). -/
def RecordFlags.grade (f : RecordFlags) : RecordClass :=
  if f.undercure || f.aborted || f.earlyOpen || f.cureStalled then .reject
  else if f.tempExcursion || f.permitLapse || f.heatOff || f.rateClamped || f.tareStale || f.ejectRetried || f.sensorFault
  then .suspect
  else .good

/-- The change flags from bit 0 up (R185). -/
def ChangeFlags.toList (f : ChangeFlags) : List Bool :=
  [f.readyRose, f.readyFell, f.unexpectedClose, f.zoneFaultChange]

/-- The part record made from a context when its commit is taken (R125). -/
def CycleContext.record (c : CycleContext) : PartRecord := { panel := c.panel, grade := c.panel.flags.grade }

/-- A context with its panel's record changed. -/
def CycleContext.onPanel (f : PanelRecord → PanelRecord) (c : CycleContext) : CycleContext := { c with panel := f c.panel }

/-- A context with its flag set changed (R24). -/
def CycleContext.onFlags (f : RecordFlags → RecordFlags) (c : CycleContext) : CycleContext :=
  c.onPanel fun r => { r with flags := f r.flags }

/-! ## The request and armed flags of a level -/

/-- A level takes the value of its condition as the source hands it on. In LEVEL mode the request follows the
condition (R145). In EDGE mode a rise with armed set latches the request and clears armed, a fall sets armed and
keeps the request (R146); an unchanged condition does nothing. -/
def Level.handOn (condition : Bool) (l : Level) : Level :=
  if l.edge then
    if condition && !l.condition then
      { l with condition := true, request := l.request || l.armed, armed := false }
    else if !condition && l.condition then
      { l with condition := false, armed := true }
    else l
  else { l with condition := condition, request := condition }

/-- A level takes a trigger mode: a changed mode sets request and armed from the condition, an unchanged one keeps
both (R147). -/
def Level.setEdge (edge : Bool) (l : Level) : Level :=
  if edge = l.edge then l
  else if edge then { l with edge := true, request := l.condition, armed := !l.condition }
  else { l with edge := false, request := l.condition, armed := true }

/-- What POLL's grant does to a level: an EDGE latch is cleared, and with auto-end off the level enters service
(R153). -/
def Level.grant (autoEnd : Bool) (l : Level) : Level :=
  { l with request := if l.edge then false else l.request, inService := if autoEnd then l.inService else true }

/-! ## The priority ring and presentation -/

/-- The rank of a level in the ring of a lowest level: (l − lowest − 1) modulo 12, 0 highest (R149). -/
def rank (lowest l : LevelId) : Nat := (l.val + 23 - lowest.val) % 12

/-- The levels in the ring's order from the highest priority to the lowest (R149). -/
def ringOrder (lowest : LevelId) : List LevelId := (List.finRange 12).map fun k => lowest + 1 + k

/-- A level is presentable: requested, unmasked, not in service, and in NESTED mode higher in priority than every
level in service (R151). -/
def Attention.presentable (a : Attention) (l : LevelId) : Bool :=
  a.levels[l].request && !a.levels[l].masked && !a.levels[l].inService &&
  (a.openNesting || (List.finRange 12).all fun k => !a.levels[k].inService || decide (rank a.lowest l < rank a.lowest k))

/-- ATTN is judged: asserted exactly while some level is presentable (R152). -/
def Attention.judge (a : Attention) : Attention := { a with attn := (List.finRange 12).any a.presentable }

/-- One level changed. -/
def Attention.onLevel (a : Attention) (l : LevelId) (f : Level → Level) : Attention :=
  { a with levels := a.levels.set l (f a.levels[l]) }

/-- The presentable level of highest priority, if there is one (R153). -/
def Attention.highest (a : Attention) : Option LevelId := (ringOrder a.lowest).find? a.presentable

/-- The unmasked level in service of highest priority, if there is one (R157). -/
def Attention.highestInService (a : Attention) : Option LevelId :=
  (ringOrder a.lowest).find? fun l => a.levels[l].inService && !a.levels[l].masked

/-- The levels of which a flag holds, bit l for level l (R183). -/
def Attention.levelSet (a : Attention) (f : Level → Bool) : Nat := setNumber (a.levels.toList.map f)

end Sys2Proof.Machine
end

