-- ==== Sys2Proof/Machine/Ops.lean ====
section
/-! DEFINITION. The operations that several commands share: access to one press, the setpoints, readiness and
hold-off of a press, admission and the scale queue, a change of heat state, commit, the hand-on of attention
conditions, and the entries of the message link. Each is said once, from the rule its docstring cites. -/

namespace Sys2Proof.Machine

/-! ## Presses and zones -/

/-- The four presses in ascending order. -/
def allPresses : List PressId := List.finRange 4

/-- The eight zones of a press in ascending order. -/
def allZones : List ZoneId := List.finRange 8

/-- The states in which a press holds a cycle context: CHARGE_READY..COMMIT_HELD (1.2). -/
def PressState.holdsContext : PressState → Bool
  | .offline | .heating | .chargeWait => false
  | .chargeReady | .curing | .demouldDue | .ejecting | .ejectFault | .unloadWait | .commitHeld => true

/-- The states whose cycle is still marked by heat, readiness and sensors: CHARGE_READY..DEMOULD_DUE (R46, R65, R67, R77). -/
def PressState.isMarked : PressState → Bool
  | .chargeReady | .curing | .demouldDue => true
  | .offline | .heating | .chargeWait | .ejecting | .ejectFault | .unloadWait | .commitHeld => false

/-- The states in which the profile is active and the cure unit steps: CURING and DEMOULD_DUE (R71, R83). -/
def PressState.isClosed : PressState → Bool
  | .curing | .demouldDue => true
  | .offline | .heating | .chargeWait | .chargeReady | .ejecting | .ejectFault | .unloadWait | .commitHeld => false

/-- The states in which the forced ejector level drives EJECTOR: OFFLINE and HEATING (R3). -/
def PressState.allowsForce : PressState → Bool
  | .offline | .heating => true
  | .chargeWait | .chargeReady | .curing | .demouldDue | .ejecting | .ejectFault | .unloadWait | .commitHeld => false

/-- The level of EJECTOR (R3): on in the pulse phase of a stroke in EJECTING, and on with the forced level in OFFLINE
or HEATING. -/
def Press.ejectorLevel (x : Press) : Bool :=
  (x.state == .ejecting && (match x.stroke with | some (.pulse _ _ _) => true | _ => false)) ||
  (x.state.allowsForce && x.forced)

/-- A press with its two output pins at the levels R3 gives. -/
def Press.drive (x : Press) : Press := { x with openPermit := x.state == .demouldDue, ejector := x.ejectorLevel }

/-- A press enters a state; the forced ejector level goes off outside OFFLINE and HEATING (R3). -/
def Press.enter (state : PressState) (x : Press) : Press :=
  { x with state := state, forced := x.forced && state.allowsForce }

/-- One press of the part. -/
def State.press (s : State) (p : PressId) : Press := s.presses[p]

/-- One press changed, its outputs following at once (R3). -/
def State.modPress (s : State) (p : PressId) (f : Press → Press) : State :=
  { s with presses := s.presses.set p (f s.presses[p]).drive }

/-- Every press changed, its outputs following at once (R3). -/
def State.modAll (s : State) (f : PressId → Press → Press) : State :=
  { s with presses := Vector.ofFn fun p => (f p s.presses[p]).drive }

/-- One zone of a press changed. -/
def Press.modZone (z : ZoneId) (f : Zone → Zone) (x : Press) : Press :=
  { x with zones := x.zones.set z (f x.zones[z]) }

/-- Every zone of a press changed. -/
def Press.modZones (f : ZoneId → Zone → Zone) (x : Press) : Press :=
  { x with zones := Vector.ofFn fun z => f z x.zones[z] }

/-- A press with the context it holds changed, if it holds one (R24). -/
def Press.onContext (f : CycleContext → CycleContext) (x : Press) : Press := { x with context := x.context.map f }

/-- A press with flags added to the context it holds, if it holds one (R24). -/
def Press.addFlag (f : RecordFlags → RecordFlags) (x : Press) : Press := x.onContext (CycleContext.onFlags f)

/-- The recipe a press reads: that of the slot its setup names (chapter 2). None without a setup. -/
def State.recipeOf (s : State) (p : PressId) : Option Recipe :=
  match (s.press p).setup with
  | some u => s.recipes[u.slot]
  | none => none

/-- A zone is in its press's active zone set; none is without a setup (R37). -/
def Press.isActive (x : Press) (z : ZoneId) : Bool :=
  match x.setup with
  | some u => u.zones.getLsbD z.val
  | none => false

/-- The counted zones, in ascending order: active, mode not OFF, sensor not in FAULT (R73, R85). -/
def Press.countedZones (x : Press) : List ZoneId :=
  allZones.filter fun z => x.isActive z && decide (x.zones[z].mode ≠ .off) && decide (x.zones[z].sensor ≠ .fault)

/-! ## Hold-off and heater windows -/

/-- A hold-off cause holds for a zone (R47). -/
def Press.heldOff (heat : HeatState) (x : Press) (z : ZoneId) : Bool :=
  heat == .off || x.state == .offline || !x.isActive z || x.zones[z].mode == .off || x.zones[z].sensor == .fault

/-- What the beginning of a hold-off cause does to a zone, at once (R47). -/
def Zone.holdOff (z : Zone) : Zone := { z with pending := 0, applied := 0, heater := false, integral := 0 }

/-- Every zone of a press held off (R47). -/
def Press.holdOffAll (x : Press) : Press := x.modZones fun _ => Zone.holdOff

/-- The on-time of a duty within a window, ms (R57). -/
def onTimeMs (duty window : Nat) : Nat := duty * window / 1000

/-- A heater window starts: each zone takes its pending duty as its applied duty, and its heater turns on when its
on-time is above 0 (R56, R57). -/
def Press.startWindow (start : Clock) (window : Nat) (x : Press) : Press :=
  { x with windowStart := some start }.modZones fun _ z =>
    { z with applied := z.pending, heater := decide (0 < onTimeMs z.pending window) }

/-- The bound of a zone's manual duty: the recipe's max_duty, or 1000 without a setup (R54). -/
def dutyBound : Option Recipe → Nat
  | some r => r.maxDuty
  | none => Config.fullDuty

/-- The stored manual duty of each zone in MANUAL is lowered to a bound (R54). -/
def Press.reboundManual (bound : Nat) (x : Press) : Press :=
  x.modZones fun _ z => if z.mode = .manual then { z with manual := min z.manual bound } else z

/-! ## Profile, setpoints and readiness -/

/-- A profile's length: the segments before the first of duration 0 (R70). -/
def profileLength (r : Recipe) : Nat := (r.durations.toList.takeWhile (· ≠ 0)).length

/-- The end of segment k, ms from close (R70). -/
def segmentEnd (r : Recipe) (k : Nat) : Nat := (r.durations.toList.take k).sum * 1000

/-- The offset of a current segment: 0 while the profile is inactive or has no timed segment (R68, R71). -/
def segmentOffset (r : Recipe) (segment : Nat) : Int :=
  if segment = 0 ∨ profileLength r = 0 then 0 else r.offsets.toList.getD (segment - 1) 0

/-- The effective setpoint of a zone in a heat state, clamped to 0..sp_limit (R68). -/
def effectiveSetpoint (r : Recipe) (heat : HeatState) (segment : Nat) (z : ZoneId) : Int :=
  let wanted := match heat with
    | .run => r.baseTemp + r.zoneTrim[z] + segmentOffset r segment
    | .standby => r.standbyTemp + r.zoneTrim[z]
    | .off => r.baseTemp + r.zoneTrim[z]
  max 0 (min wanted r.spLimit)

/-- A press with its eight setpoints recomputed: 0 without a setup (R68, R69). -/
def Press.withSetpoints (recipe : Option Recipe) (heat : HeatState) (x : Press) : Press :=
  { x with setpoints := Vector.ofFn fun z => match recipe with
      | some r => effectiveSetpoint r heat x.segment z
      | none => 0 }

/-- One press's setpoints recomputed from its recipe, the heat state and its segment (R69). -/
def State.recomputeSetpoints (s : State) (p : PressId) : State :=
  s.modPress p (Press.withSetpoints (s.recipeOf p) s.heat.state)

/-- Readiness returns to NOT_READY with its run at 0 and no change flag set (R76). -/
def Press.resetReadiness (x : Press) : Press := { x with ready := false, run := 0 }

/-! ## Admission and the scale queue -/

/-- The admission test: the heat state is RUN, and the gating is MONITOR or the press READY (R78). -/
def State.admits (s : State) (p : PressId) : Bool :=
  s.heat.state == .run &&
  (match (s.press p).setup with
    | some u => u.gating == .monitor || (s.press p).ready
    | none => false)

/-- Admission is evaluated for a press: in HEATING with the test passing it enters CHARGE_WAIT and joins the tail of
the scale queue; otherwise nothing changes (R7, R78). -/
def State.evaluateAdmission (s : State) (p : PressId) : State :=
  if (s.press p).state = .heating ∧ s.admits p = true then
    let s := s.modPress p (Press.enter .chargeWait)
    { s with scale := { s.scale with queue := s.scale.queue ++ [p] } }
  else s

/-- A press leaves the scale queue, the others keeping their order (R116). -/
def State.leaveQueue (s : State) (p : PressId) : State :=
  { s with scale := { s.scale with queue := s.scale.queue.filter (· ≠ p) } }

/-- A press enters HEATING from another state and admission is evaluated at once (R78). -/
def State.enterHeating (s : State) (p : PressId) : State :=
  (s.modPress p (Press.enter .heating)).evaluateAdmission p

/-- A press in CHARGE_WAIT returns to HEATING and leaves the scale queue, and admission is evaluated again (R8). -/
def State.withdraw (s : State) (p : PressId) : State := (s.leaveQueue p).enterHeating p

/-! ## Heat state -/

/-- A change of heat state with its consequences in the order of R66; a heat state that stays as it was has none. -/
def State.changeHeat (s : State) (new : HeatState) : State :=
  let old := s.heat.state
  if old = new then s
  else
    let s := { s with heat := { s.heat with state := new } }
    let s := s.modAll fun p x => (x.withSetpoints (s.recipeOf p) new).resetReadiness
    let s :=
      if old = .run then
        allPresses.foldl (fun s p => if (s.press p).state = .chargeWait then s.withdraw p else s) s
      else s
    let s := if new = .run then allPresses.foldl State.evaluateAdmission s else s
    if new = .off then s.modAll fun _ => Press.holdOffAll else s

/-- A flag is added to the context of every press in CHARGE_READY..DEMOULD_DUE (R65, R67). -/
def State.markCycles (s : State) (f : RecordFlags → RecordFlags) : State :=
  s.modAll fun _ x => if x.state.isMarked then x.addFlag f else x

/-! ## Commit -/

/-- The commit of a press's context is taken: its record joins the tail of the history queue, the press holds no
context and enters HEATING, and admission is evaluated (R21, R128). -/
def State.takeRecord (s : State) (p : PressId) (c : CycleContext) : State :=
  let s := { s with history := { s.history with records := s.history.records ++ [c.record] } }
  (s.modPress p fun x => { x with context := none }).enterHeating p

/-- A press offers its context for commit: taken with room in the history queue, otherwise the press enters
COMMIT_HELD and joins the tail of the commit wait list (R128). A press without a context offers nothing. -/
def State.offerCommit (s : State) (p : PressId) : State :=
  match (s.press p).context with
  | none => s
  | some c =>
    if s.history.records.length < Config.historyCapacity then s.takeRecord p c
    else
      let s := s.modPress p (Press.enter .commitHeld)
      { s with history := { s.history with waitList := s.history.waitList ++ [p] } }

/-- The near-full condition (R133). -/
def History.nearFull (h : History) : Bool :=
  decide (Config.nearFullCount ≤ h.records.length) || !h.waitList.isEmpty

/-! ## The conditions of the attention levels -/

/-- A press gives a cause of level 0: an active zone in FAULT while not OFFLINE, or EJECT_FAULT (R142). -/
def Press.faultCause (x : Press) : Bool :=
  (decide (x.state ≠ .offline) && allZones.any fun z => x.isActive z && x.zones[z].sensor == .fault) ||
  x.state == .ejectFault

/-- The condition of level 2: a held verdict other than ACCEPT, or TARE_FAULT (R122). -/
def Scale.alarm (c : Scale) : Bool :=
  (c.state == .removeWait && (match c.held with | some v => decide (v.verdict ≠ .accept) | none => false)) ||
  c.state == .tareFault

/-- The condition of a level as its source block's state gives it (R141). Levels 4 + p and 8 + p belong to press p,
whose number is the level's modulo 4. -/
def State.condition (s : State) (l : LevelId) : Bool :=
  if l.val = 0 then allPresses.any fun p => (s.press p).faultCause
  else if l.val = 1 then s.heat.lapse
  else if l.val = 2 then s.scale.alarm
  else if l.val = 3 then s.history.nearFull
  else if l.val < 8 then (s.press (Fin.ofNat 4 l.val)).state == .unloadWait
  else (s.press (Fin.ofNat 4 l.val)).state == .chargeReady

/-- The end of an event: the changes of condition it made are handed on together, and ATTN is judged once (R141, R152). -/
def State.settle (s : State) : State :=
  { s with attention :=
      ({ s.attention with levels := Vector.ofFn fun l => s.attention.levels[l].handOn (s.condition l) }).judge }

/-! ## Rounding -/

/-- The integer that a rounding mode selects from num / den, den above 0 (7.4). -/
def roundQuotient (mode : RoundingMode) (num : Int) (den : Nat) : Int :=
  let q := num / (den : Int)
  let r := num % (den : Int)
  match mode with
  | .nearestEven =>
    if 2 * r < den then q else if den < 2 * r then q + 1 else if q % 2 = 0 then q else q + 1
  | .towardZero => if num < 0 ∧ r ≠ 0 then q + 1 else q
  | .down => q
  | .up => if r = 0 then q else q + 1

/-- A value moved to the nearer bound of a range. -/
def clampInt (low high v : Int) : Int := max low (min v high)

/-! ## Requests and entries of the message link -/

/-- A request whose first field is a press number: RANGE for a number above 3, before every other test (1.3). -/
def withPress (press : Byte) (s : State) (act : PressId → State × Reply) : State × Reply :=
  match pressOf press with
  | none => (s, rangeReply 1)
  | some p => act p

/-- The time a frame takes on TXD, ms, at ten bit times a character (R166). The part of a millisecond is dropped: log 9. -/
def lineTime (fast : Bool) (bytes : Nat) : Nat := bytes * 10 * 1000 / (if fast then 460800 else 115200)

/-- A reply is sent: its entry is in hand until the reply's last stop bit has left TXD (R171). -/
def State.putInHand (s : State) (e : Entry) (payload : Reply) : State :=
  let reply := frame e.replyKind payload
  { s with link := { s.link with
      hand := some { entry := e, reply := reply, sentAt := laterBy s.clock (lineTime s.link.fast reply.length) } } }

/-- An entry is taken: its owner acts and forms the reply's payload, and the entry passes into hand (R171). -/
def State.takeEntry (s : State) (e : Entry) (act : State → State × Reply) : State :=
  (act s).1.putInHand e (act s).2

/-- A new entry reaches the link: taken at once with nothing in hand, else it waits in the empty pending slot, else
it is discarded and counted (R171). -/
def State.arrive (s : State) (e : Entry) (act : State → State × Reply) : State :=
  match s.link.hand, s.link.slot with
  | none, _ => s.takeEntry e act
  | some _, none => { s with link := { s.link with slot := some e } }
  | some _, some _ => { s with link := { s.link with discarded := min Config.discardedMax (s.link.discarded + 1) } }

/-- A request command: a good frame of that request becomes an entry (R169, R171). DEDUCED: the row of a request
stands for the frame; log 1. -/
def State.request (s : State) (c : Instr) (act : State → State × Reply) : State := s.arrive (requestEntry c) act

end Sys2Proof.Machine
end

