-- ==== Sys2Proof/Machine/Attention.lean ====
section
/-! DEFINITION. The attention controller's requests (chapter 8): POLL and its snapshot, END_SERVICE, SET_LOWEST,
ATTN_SETUP and ATTN_READ. -/

namespace Sys2Proof.Machine

/-! ## POLL -/

/-- The active zones of a press in sensor FAULT, as a set; none for an OFFLINE press (R154, R187). -/
def faultZones (x : Press) : List Byte :=
  num8 (setNumber (allZones.map fun z =>
    decide (x.state ≠ .offline) && x.isActive z && x.zones[z].sensor == .fault))

/-- The serial of the context a press holds, 0 when it holds none (R187). -/
def contextSerial (x : Press) : Nat := match x.context with | some c => c.panel.serial | none => 0

/-- The mass of the context a press holds, 0 when it holds none (R187). -/
def contextMass (x : Press) : Int := match x.context with | some c => c.panel.mass | none => 0

/-- The fourteen bytes of a level-2 snapshot (R187). -/
def scaleSnapshot (c : Scale) : List Byte :=
  let held := if c.state = .removeWait then c.held else none
  match held with
  | some v =>
    num8 (c.state.code + 8 * v.verdict.code + (if v.tareStale then 128 else 0)) ++
    (match v.press with | some p => num8 p.val | none => [255]) ++
    int32 v.mass ++ le32 v.time ++ num32 (v.serial.getD 0)
  | none =>
    num8 c.state.code ++ [255] ++ valueOrZeros 4 int32 (if c.state = .tareFault then c.faultGross else none) ++
    List.replicate 8 0

/-- The bytes of a snapshot that its level uses (R154, R187). -/
def snapshotBytes (s : State) (l : LevelId) : List Byte :=
  let x := s.press (Fin.ofNat 4 l.val)
  if l.val = 0 then
    num8 (setNumber (allPresses.map fun p => (s.press p).state == .ejectFault)) ++
    allPresses.flatMap fun p => faultZones (s.press p)
  else if l.val = 1 then num8 s.heat.state.code ++ num16 s.heat.remaining ++ flagByte s.heat.lapse
  else if l.val = 2 then scaleSnapshot s.scale
  else if l.val = 3 then num8 s.history.records.length ++ num8 s.history.waitList.length
  else if l.val < 8 then num8 x.state.code ++ num32 (contextSerial x)
  else num8 x.state.code ++ num32 (contextSerial x) ++ int32 (contextMass x)

/-- A snapshot filled with 0 up to its fourteen bytes (R187). -/
def snapshot (s : State) (l : LevelId) : List Byte :=
  snapshotBytes s l ++ List.replicate (14 - (snapshotBytes s l).length) 0

/-- The press byte of a POLL reply: the press of levels 4..11, 255 otherwise (10.8). -/
def levelPress (l : LevelId) : List Byte := if l.val < 4 then [255] else num8 (l.val % 4)

/-- A grant: the latch and the membership as R153 gives, and under auto-end with rotation the ring moves (R155). -/
def Attention.grant (a : Attention) (l : LevelId) : Attention :=
  let b := a.onLevel l (Level.grant a.autoEnd)
  if a.autoEnd && a.rotateOnAuto then { b with lowest := l }.judge else b.judge

/-- POLL (R153): NONE changes nothing. -/
def servePoll (s : State) : State × Reply :=
  match s.attention.highest with
  | none => (s, okReply ([255, 0, 255] ++ num8 s.attention.lowest.val ++ List.replicate 14 0))
  | some l =>
    let t := { s with attention := s.attention.grant l }
    (t, okReply (num8 l.val ++ flagByte (!s.attention.autoEnd) ++ levelPress l ++ num8 t.attention.lowest.val ++
      snapshot t l))

/-- The meaning of POLL (R153). -/
def execPoll (s : State) : Host.Outcome State Fault Refusal := .next (s.request .poll servePoll)

/-! ## END_SERVICE -/

/-- A level ends: it leaves the in-service set. -/
def Attention.endLevel (a : Attention) (l : LevelId) : Attention :=
  a.onLevel l fun k => { k with inService := false }

/-- The reply of END_SERVICE: the ended level or none, and the lowest level (R157, R158). -/
def endReply (ended : Option LevelId) (a : Attention) : Reply := okReply (levelByte ended ++ num8 a.lowest.val)

/-- END_SERVICE NON_SPECIFIC: the unmasked level in service of highest priority ends, and ROTATE makes it the lowest
(R157, R159). -/
def endNonSpecific (rotate : Bool) (s : State) : State × Reply :=
  match s.attention.highestInService with
  | none => (s, endReply none s.attention)
  | some l =>
    let a := s.attention.endLevel l
    let a := (if rotate then { a with lowest := l } else a).judge
    ({ s with attention := a }, endReply (some l) a)

/-- END_SERVICE SPECIFIC: the named level ends when it is in service, and ROTATE makes it the lowest in either case
(R158, R159). -/
def endSpecific (l : LevelId) (rotate : Bool) (s : State) : State × Reply :=
  let ended := s.attention.levels[l].inService
  let a := if ended then s.attention.endLevel l else s.attention
  let a := (if rotate then { a with lowest := l } else a).judge
  ({ s with attention := a }, endReply (if ended then some l else none) a)

/-- END_SERVICE: RANGE in field order, the level field examined for SPECIFIC alone (R157, R158). -/
def serveEndService (form level rotate : Byte) (s : State) : State × Reply :=
  match bitOf form with
  | none => (s, rangeReply 1)
  | some false =>
    match bitOf rotate with
    | none => (s, rangeReply 3)
    | some r => endNonSpecific r s
  | some true =>
    match levelOf level with
    | none => (s, rangeReply 2)
    | some l =>
      match bitOf rotate with
      | none => (s, rangeReply 3)
      | some r => endSpecific l r s

/-- The meaning of END_SERVICE (R157, R158). -/
def execEndService (form level rotate : Byte) (s : State) : Host.Outcome State Fault Refusal :=
  .next (s.request (.endService form level rotate) (serveEndService form level rotate))

/-! ## SET_LOWEST -/

/-- SET_LOWEST (R150). -/
def serveSetLowest (level : Byte) (s : State) : State × Reply :=
  match levelOf level with
  | none => (s, rangeReply 1)
  | some l => ({ s with attention := { s.attention with lowest := l }.judge }, okReply (num8 l.val))

/-- The meaning of SET_LOWEST (R150). -/
def execSetLowest (level : Byte) (s : State) : Host.Outcome State Fault Refusal :=
  .next (s.request (.setLowest level) (serveSetLowest level))

/-! ## ATTN_SETUP and ATTN_READ -/

/-- The controller after an ATTN_SETUP is taken (R162): changed trigger modes, then the mask, then the options, then
ATTN judged. -/
def Attention.setUp (mask edge : BitVec 12) (openNesting autoEnd rotate : Bool) (a : Attention) : Attention :=
  { a with
      levels := Vector.ofFn fun l : LevelId =>
        { a.levels[l].setEdge (edge.getLsbD l.val) with masked := mask.getLsbD l.val }
      openNesting := openNesting
      autoEnd := autoEnd
      rotateOnAuto := rotate }.judge

/-- A set of levels as two bytes (R188). -/
def levelSetBytes (a : Attention) (f : Level → Bool) : List Byte := num16 (a.levelSet f)

/-- ATTN_SETUP (R161, R162). -/
def serveAttnSetup (mask edge : BitVec 16) (nesting autoEnd rotate : Byte) (s : State) : State × Reply :=
  match levelSetOf mask, levelSetOf edge, bitOf nesting, bitOf autoEnd, bitOf rotate with
  | none, _, _, _, _ => (s, rangeReply 1)
  | some _, none, _, _, _ => (s, rangeReply 2)
  | some _, some _, none, _, _ => (s, rangeReply 3)
  | some _, some _, some _, none, _ => (s, rangeReply 4)
  | some _, some _, some _, some _, none => (s, rangeReply 5)
  | some m, some e, some n, some ae, some r =>
    let a := s.attention.setUp m e n ae r
    ({ s with attention := a },
     okReply (levelSetBytes a (·.masked) ++ levelSetBytes a (·.edge) ++ flagByte a.openNesting ++ flagByte a.autoEnd ++
       flagByte a.rotateOnAuto ++ levelSetBytes a (·.request) ++ levelSetBytes a (·.inService)))

/-- The meaning of ATTN_SETUP (R162). -/
def execAttnSetup (mask edge : BitVec 16) (nesting autoEnd rotate : Byte) (s : State) :
    Host.Outcome State Fault Refusal :=
  .next (s.request (.attnSetup mask edge nesting autoEnd rotate) (serveAttnSetup mask edge nesting autoEnd rotate))

/-- The contents of ATTN_READ in the order of R163. -/
def attentionContents (a : Attention) : List Byte :=
  levelSetBytes a (·.condition) ++ levelSetBytes a (·.request) ++ levelSetBytes a (·.inService) ++
  levelSetBytes a (·.masked) ++ levelSetBytes a (·.armed) ++ levelSetBytes a (·.edge) ++
  num16 (setNumber ((List.finRange 12).map a.presentable)) ++ flagByte a.attn ++ num8 a.lowest.val ++
  flagByte a.openNesting ++ flagByte a.autoEnd ++ flagByte a.rotateOnAuto

/-- ATTN_READ (R163). -/
def serveAttnRead (s : State) : State × Reply := (s, okReply (attentionContents s.attention))

/-- The meaning of ATTN_READ (R163). -/
def execAttnRead (s : State) : Host.Outcome State Fault Refusal := .next (s.request .attnRead serveAttnRead)

end Sys2Proof.Machine
end

