-- ==== Sys2Proof/Machine/Press.lean ====
section
/-! DEFINITION. The press sequencer (chapter 1): its requests but PRESS_STATUS, the accepted edges of its inputs,
and the ejector stroke. A function `serve…` is the owner's handling of a request when it is taken, answering the
state and the reply's payload; `exec…` is the meaning of the row. -/

namespace Sys2Proof.Machine

/-- The reply that carries a press's state after the request. -/
def stateReplyOf (s : State) (p : PressId) : Reply := okReply (num8 (s.press p).state.code)

/-! ## Entering and leaving service -/

/-- A press with a setup leaves OFFLINE for HEATING: its windows start and admission is evaluated (R6, R55, R56). -/
def State.enablePress (s : State) (p : PressId) : State :=
  let window := match s.recipeOf p with | some r => r.heaterWindow | none => 0
  let s := s.modPress p fun x => (x.enter .heating).startWindow s.clock window
  s.evaluateAdmission p

/-- PRESS_ENABLE (R6). -/
def servePressEnable (press : Byte) (s : State) : State × Reply :=
  withPress press s fun p =>
    if (s.press p).state ≠ .offline then (s, stateReply)
    else if (s.press p).setup = none then (s, notFoundReply)
    else
      let s := (s.enablePress p).settle
      (s, stateReplyOf s p)

/-- The meaning of PRESS_ENABLE (R6). -/
def execPressEnable (press : Byte) (s : State) : Host.Outcome State Fault Refusal :=
  .next (s.request (.pressEnable press) (servePressEnable press))

/-- A press enters OFFLINE: its zones are held off and its windows end (R9, R47, R55). -/
def Press.toOffline (x : Press) : Press := { x.enter .offline with windowStart := none }.holdOffAll

/-- PRESS_DISABLE (R9). DEDUCED: the reply carries no contents, as R9 lists none; unsafe, log 11. -/
def servePressDisable (press : Byte) (s : State) : State × Reply :=
  withPress press s fun p =>
    if (s.press p).state = .heating ∨ (s.press p).state = .chargeWait then
      (((s.leaveQueue p).modPress p Press.toOffline).settle, okReply [])
    else (s, stateReply)

/-- The meaning of PRESS_DISABLE (R9). -/
def execPressDisable (press : Byte) (s : State) : Host.Outcome State Fault Refusal :=
  .next (s.request (.pressDisable press) (servePressDisable press))

/-! ## PRESS_ABORT -/

/-- What PRESS_ABORT does in the state it finds; none where R23 refuses it. -/
def State.abortPress (s : State) (p : PressId) : Option State :=
  let aborted := Press.addFlag fun f => { f with aborted := true }
  match (s.press p).state with
  | .offline | .heating | .commitHeld => none
  | .chargeWait => some (s.withdraw p)
  | .chargeReady =>
    some ((s.modPress p fun x =>
      (aborted x).onContext (CycleContext.onPanel fun r => { r with commitTime := some s.clock })).offerCommit p)
  | .curing => some (s.modPress p fun x => (aborted x).enter .demouldDue)
  | .demouldDue | .ejecting | .unloadWait => some (s.modPress p aborted)
  | .ejectFault => some (s.modPress p fun x => (aborted x).enter .unloadWait)

/-- PRESS_ABORT (R23). -/
def servePressAbort (press : Byte) (s : State) : State × Reply :=
  withPress press s fun p =>
    match s.abortPress p with
    | none => (s, stateReply)
    | some t => (t.settle, stateReplyOf t.settle p)

/-- The meaning of PRESS_ABORT (R23). -/
def execPressAbort (press : Byte) (s : State) : Host.Outcome State Fault Refusal :=
  .next (s.request (.pressAbort press) (servePressAbort press))

/-! ## The ejector -/

/-- The recipe's eject_width, ms (R16). A press with a stroke always has a recipe (R36); log 19. -/
def State.ejectWidth (s : State) (p : PressId) : Nat :=
  match s.recipeOf p with | some r => r.ejectWidth | none => 0

/-- The recipe's eject_delay, ms (R16); log 19 as above. -/
def State.ejectDelay (s : State) (p : PressId) : Nat :=
  match s.recipeOf p with | some r => r.ejectDelay | none => 0

/-- The PULSE phase starts now, without contact recorded (R16, R19). -/
def State.pulseNow (s : State) (p : PressId) : Stroke := .pulse (laterBy s.clock (s.ejectWidth p)) s.clock false

/-- EJECT_RETRY (R19). -/
def serveEjectRetry (press : Byte) (s : State) : State × Reply :=
  withPress press s fun p =>
    if (s.press p).state ≠ .ejectFault then (s, stateReply)
    else
      let retried (r : PanelRecord) : PanelRecord :=
        { r with retries := min Config.retriesMax (r.retries + 1), flags := { r.flags with ejectRetried := true } }
      let s := (s.modPress p fun x =>
        { (x.onContext (CycleContext.onPanel retried)).enter .ejecting with stroke := some (s.pulseNow p) }).settle
      (s, stateReplyOf s p)

/-- The meaning of EJECT_RETRY (R19). -/
def execEjectRetry (press : Byte) (s : State) : Host.Outcome State Fault Refusal :=
  .next (s.request (.ejectRetry press) (serveEjectRetry press))

/-- EJECT_FORCE (R20). -/
def serveEjectForce (press level : Byte) (s : State) : State × Reply :=
  withPress press s fun p =>
    match bitOf level with
    | none => (s, rangeReply 2)
    | some on =>
      if (s.press p).state.allowsForce then
        ((s.modPress p fun x => { x with forced := on }).settle, okReply [])
      else (s, stateReply)

/-- The meaning of EJECT_FORCE (R20). -/
def execEjectForce (press level : Byte) (s : State) : Host.Outcome State Fault Refusal :=
  .next (s.request (.ejectForce press level) (serveEjectForce press level))

/-- The delay of a stroke ends and its pulse starts (R16). A press without a stroke in DELAY is left as it is: log 3. -/
def State.endDelay (s : State) (p : PressId) : State :=
  match (s.press p).state, (s.press p).stroke with
  | .ejecting, some (.delay _) => (s.modPress p fun x => { x with stroke := some (s.pulseNow p) }).settle
  | _, _ => s

/-- The meaning of DELAY_END (R16). -/
def execDelayEnd (press : PressId) (s : State) : Host.Outcome State Fault Refusal := .next (s.endDelay press)

/-- A pulse ends: UNLOAD_WAIT with contact recorded, EJECT_FAULT without (R18). A press without a stroke in PULSE is
left as it is: log 3. -/
def State.endPulse (s : State) (p : PressId) : State :=
  match (s.press p).state, (s.press p).stroke with
  | .ejecting, some (.pulse _ _ contact) =>
    (s.modPress p fun x =>
      { x.enter (if contact then .unloadWait else .ejectFault) with stroke := none }).settle
  | _, _ => s

/-- The meaning of PULSE_END (R18). -/
def execPulseEnd (press : PressId) (s : State) : Host.Outcome State Fault Refusal := .next (s.endPulse press)

/-! ## Accepted edges -/

/-- A filter after an edge it delivered: the accepted level is the edge's, the candidate absent (R1, R2). -/
def InputFilter.delivered (level : Bool) : InputFilter := { sampled := true, level := level, candidate := none }

/-- An accepted edge is recorded: the filter's accepted level and the last capture of its direction (R1, R2). -/
def Press.capture (input : PressInput) (rise : Bool) (t : Clock) (x : Press) : Press :=
  match input with
  | .closed =>
    { x with closed := .delivered rise, captures :=
        if rise then { x.captures with closedRise := t } else { x.captures with closedFall := t } }
  | .ejectContact =>
    { x with contact := .delivered rise, captures :=
        if rise then { x.captures with contactRise := t } else { x.captures with contactFall := t } }
  | .partClear =>
    { x with partClear := .delivered rise, captures :=
        if rise then { x.captures with clearRise := t } else { x.captures with clearFall := t } }

/-- A press with a charge closes on it: close time, accumulator and step count at 0, profile at segment 1 and no
last-step record (R11, R71, R100). -/
def Press.close (recipe : Option Recipe) (t : Clock) (x : Press) : Press :=
  let closing (c : CycleContext) : CycleContext :=
    { c with panel := { c.panel with closeTime := some t }, accumulator := some 0, stepCount := some 0 }
  { (x.onContext closing).enter .curing with
      segment := 1
      frozen := match recipe with | some r => profileLength r == 0 | none => true
      lastStep := none }

/-- A CLOSED rise is accepted (R2, R11, R12). -/
def State.closedRise (s : State) (p : PressId) (t : Clock) : State :=
  let s := s.modPress p (Press.capture .closed true t)
  match (s.press p).state with
  | .chargeReady => ((s.modPress p (Press.close (s.recipeOf p) t)).recomputeSetpoints p).settle
  | .offline | .heating | .chargeWait | .ejecting | .ejectFault | .unloadWait | .commitHeld =>
    (s.modPress p fun x => { x with changes := { x.changes with unexpectedClose := true } }).settle
  | .curing | .demouldDue => s.settle

/-- The meaning of CLOSED_RISE (R11, R12). -/
def execClosedRise (press : PressId) (captured : Clock) (s : State) : Host.Outcome State Fault Refusal :=
  .next (s.closedRise press captured)

/-- A press opens: open time, the values at open, the end of the profile and the start of the stroke; EARLY_OPEN
when it was still curing (R14, R15, R16, R71). -/
def Press.openUp (early : Bool) (stroke : Stroke) (t : Clock) (x : Press) : Press :=
  let opening (c : CycleContext) : CycleContext :=
    { c with panel := { c.panel with
        openTime := some t
        accumulatorAtOpen := c.accumulator
        stepCountAtOpen := c.stepCount
        flags := if early then { c.panel.flags with earlyOpen := true } else c.panel.flags } }
  { (x.onContext opening).enter .ejecting with stroke := some stroke, segment := 0, frozen := false }

/-- The stroke of a press that opens now: its delay, or with eject_delay 0 its pulse (R16). -/
def State.openingStroke (s : State) (p : PressId) : Stroke :=
  if s.ejectDelay p = 0 then s.pulseNow p else .delay (laterBy s.clock (s.ejectDelay p))

/-- A CLOSED fall is accepted (R2, R11, R14, R15). -/
def State.closedFall (s : State) (p : PressId) (t : Clock) : State :=
  let s := s.modPress p (Press.capture .closed false t)
  match (s.press p).state with
  | .demouldDue => ((s.modPress p (Press.openUp false (s.openingStroke p) t)).recomputeSetpoints p).settle
  | .curing => ((s.modPress p (Press.openUp true (s.openingStroke p) t)).recomputeSetpoints p).settle
  | .offline | .heating | .chargeWait | .chargeReady | .ejecting | .ejectFault | .unloadWait | .commitHeld => s.settle

/-- The meaning of CLOSED_FALL (R14, R15). -/
def execClosedFall (press : PressId) (captured : Clock) (s : State) : Host.Outcome State Fault Refusal :=
  .next (s.closedFall press captured)

/-- Contact is recorded in the stroke and in the cycle context, when the rise is one of R17's: in the pulse, captured
at or after its start, the first of the pulse. -/
def Press.recordContact (t : Clock) (x : Press) : Press :=
  match x.state, x.stroke with
  | .ejecting, some (.pulse ends start false) =>
    if notBefore t start then
      { x.onContext (CycleContext.onPanel fun r => { r with contactDelay := some (spanMs t start) }) with
          stroke := some (.pulse ends start true) }
    else x
  | _, _ => x

/-- An EJECT_CONTACT rise is accepted (R2, R17). -/
def State.contactRise (s : State) (p : PressId) (t : Clock) : State :=
  (s.modPress p fun x => (x.capture .ejectContact true t).recordContact t).settle

/-- The meaning of EJECT_CONTACT_RISE (R17). -/
def execEjectContactRise (press : PressId) (captured : Clock) (s : State) : Host.Outcome State Fault Refusal :=
  .next (s.contactRise press captured)

/-- An EJECT_CONTACT fall is accepted: captured, otherwise ignored (R17). -/
def State.contactFall (s : State) (p : PressId) (t : Clock) : State :=
  (s.modPress p (Press.capture .ejectContact false t)).settle

/-- The meaning of EJECT_CONTACT_FALL (R17). -/
def execEjectContactFall (press : PressId) (captured : Clock) (s : State) : Host.Outcome State Fault Refusal :=
  .next (s.contactFall press captured)

/-- A PART_CLEAR rise is accepted: in UNLOAD_WAIT it sets the commit time and the context is offered for commit;
otherwise it is captured alone (R2, R21). -/
def State.clearRise (s : State) (p : PressId) (t : Clock) : State :=
  let s := s.modPress p (Press.capture .partClear true t)
  if (s.press p).state = .unloadWait then
    ((s.modPress p (Press.onContext (CycleContext.onPanel fun r => { r with commitTime := some t }))).offerCommit p).settle
  else s.settle

/-- The meaning of PART_CLEAR_RISE (R21). -/
def execPartClearRise (press : PressId) (captured : Clock) (s : State) : Host.Outcome State Fault Refusal :=
  .next (s.clearRise press captured)

/-- A PART_CLEAR fall is accepted: captured, otherwise ignored (R21). -/
def State.clearFall (s : State) (p : PressId) (t : Clock) : State :=
  (s.modPress p (Press.capture .partClear false t)).settle

/-- The meaning of PART_CLEAR_FALL (R21). -/
def execPartClearFall (press : PressId) (captured : Clock) (s : State) : Host.Outcome State Fault Refusal :=
  .next (s.clearFall press captured)

/-! ## The input filters -/

/-- An accepted edge is delivered to the sequencer (R2). -/
def State.deliverEdge (s : State) (p : PressId) (input : PressInput) (rise : Bool) (t : Clock) : State :=
  match input, rise with
  | .closed, true => s.closedRise p t
  | .closed, false => s.closedFall p t
  | .ejectContact, true => s.contactRise p t
  | .ejectContact, false => s.contactFall p t
  | .partClear, true => s.clearRise p t
  | .partClear, false => s.clearFall p t

/-- The filter of one input of a press. -/
def Press.filter (input : PressInput) (x : Press) : InputFilter :=
  match input with
  | .closed => x.closed
  | .ejectContact => x.contact
  | .partClear => x.partClear

/-- A press with the filter of one input replaced. -/
def Press.setFilter (input : PressInput) (f : InputFilter) (x : Press) : Press :=
  match input with
  | .closed => { x with closed := f }
  | .ejectContact => { x with contact := f }
  | .partClear => { x with partClear := f }

/-- What a sample at a time does to a filter under a filter time: the filter after it, and the captured time of the
edge it delivers, if it delivers one (the table of R1). -/
def InputFilter.sample (filterTime : Nat) (now : Clock) (level : Bool) (f : InputFilter) : InputFilter × Option Clock :=
  if !f.sampled then ({ sampled := true, level := level, candidate := none }, none)
  else if level = f.level then ({ f with candidate := none }, none)
  else match f.candidate with
    | none => ({ f with candidate := some now }, none)
    | some start =>
      if spanMs now start < filterTime then (f, none)
      else ({ f with level := level, candidate := none }, some start)

/-- A press input is sampled (R1); an accepted level delivers its edge (R2). -/
def State.sampleInput (s : State) (p : PressId) (input : PressInput) (level : Bool) : State :=
  let r := ((s.press p).filter input).sample s.cell.filterTime s.clock level
  let t := s.modPress p (Press.setFilter input r.1)
  match r.2 with
  | none => t
  | some captured => t.deliverEdge p input level captured

/-- The meaning of PRESS_INPUT_SAMPLE (R1). -/
def execPressInputSample (press : PressId) (input : PressInput) (level : Bool) (s : State) :
    Host.Outcome State Fault Refusal :=
  .next (s.sampleInput press input level)

end Sys2Proof.Machine
end

