-- ==== Sys2Proof/Machine/Scale.lean ====
section
/-! DEFINITION. The charge scale and the scale queue (chapter 6): a load-cell sample, the scale states, the verdict,
SCALE_SET, SCALE_ZERO and SCALE_STATUS. -/

namespace Sys2Proof.Machine

/-! ## Mass and the stability run -/

/-- A mass held within ±8,388,607 g (R104). -/
def clampMass (m : Int) : Int := clampInt (-Config.massMax) Config.massMax m

/-- Gross mass of a raw value: (raw − zero) × gain / 65536, rounded by the cell default mode and clamped (R104). -/
def grossMass (mode : RoundingMode) (k : ScaleSettings) (raw : Int) : Int :=
  clampMass (roundQuotient mode ((raw - k.zero) * (k.gain : Int)) 65536)

/-- Net mass: gross minus tare, clamped (R104). -/
def netMass (tare gross : Int) : Int := clampMass (gross - tare)

/-- The run restarted from a gross mass (R106). -/
def Scale.restartRun (gross : Int) (c : Scale) : Scale := { c with anchor := some gross, count := 1 }

/-- The run cleared (R106). -/
def Scale.clearRun (c : Scale) : Scale := { c with anchor := none, count := 0 }

/-- The run updated by a RAW sample's gross (R105). -/
def Scale.updateRun (gross : Int) (c : Scale) : Scale :=
  match c.anchor with
  | some a =>
    if (gross - a).natAbs ≤ c.settings.band then { c with count := min 255 (c.count + 1) } else c.restartRun gross
  | none => c.restartRun gross

/-- The run became stable at this sample: its update took the count from qualify − 1 to qualify (R105). -/
def becameStable (before after : Scale) : Bool :=
  decide (before.count + 1 = after.settings.qualify) && decide (after.count = after.settings.qualify)

/-- The run is stable while its count is at least qualify (R105). -/
def Scale.isStable (c : Scale) : Bool := decide (c.settings.qualify ≤ c.count)

/-! ## The verdict -/

/-- The verdict on a mass: the first test of R113 that holds. A head press always has a recipe (R36); log 19. -/
def judgeCharge (s : State) (mass : Int) : Verdict :=
  match s.scale.queue with
  | [] => .noClaim
  | p :: _ =>
    if s.history.exhausted then .noSerial
    else match s.recipeOf p with
      | none => .noClaim
      | some r => if mass < r.chargeMin then .under else if r.chargeMax < mass then .over else .accept

/-- The part history hands over the next serial, and the next serial advances or the exhausted mark is set (R134). -/
def History.takeSerial (h : History) : History :=
  if h.nextSerial < Config.serialMax then { h with nextSerial := h.nextSerial + 1 } else { h with exhausted := true }

/-- The cycle context a press opens with (R10). -/
def openedContext (p : PressId) (slot : SlotId) (serial : Nat) (mass : Int) (time : Clock) (stale : Bool) : CycleContext where
  panel :=
    { serial := serial, press := p, recipe := slot, mass := mass, weighTime := time
      flags := { tareStale := stale } }

/-- The head press leaves the queue, enters CHARGE_READY and opens its context (R10, R114). -/
def State.giveCharge (s : State) (p : PressId) (serial : Nat) (mass : Int) (stale : Bool) : State :=
  let slot := match (s.press p).setup with | some u => u.slot | none => 0
  let s := { s with history := s.history.takeSerial }
  (s.leaveQueue p).modPress p fun x =>
    { x.enter .chargeReady with context := some (openedContext p slot serial mass s.clock stale) }

/-- The scale enters REMOVE_WAIT holding a verdict record (R113). -/
def Scale.hold (v : VerdictRecord) (c : Scale) : Scale := { c with state := .removeWait, held := some v }

/-- The verdict event on a stable net (R113..R115). -/
def State.verdictEvent (s : State) (mass : Int) : State :=
  let verdict := judgeCharge s mass
  let stale := s.scale.stale
  let held (press : Option PressId) (serial : Option Nat) : VerdictRecord :=
    { verdict := verdict, mass := mass, time := s.clock, press := press, serial := serial, tareStale := stale }
  match verdict, s.scale.queue with
  | .noClaim, _ => { s with scale := s.scale.hold (held none none) }
  | .accept, p :: _ =>
    let serial := s.history.nextSerial
    let t := s.giveCharge p serial mass stale
    { t with scale := t.scale.hold (held (some p) (some serial)) }
  | _, queue => { s with scale := s.scale.hold (held queue.head? none) }

/-! ## A load-cell sample -/

/-- The scale enters LOADING: the stale mark is set or cleared and the run restarts from the sample (R106, R107, R109). -/
def Scale.toLoading (stale : Bool) (gross : Int) (c : Scale) : Scale :=
  { c with state := .loading, stale := stale }.restartRun gross

/-- A charge is lifted off before it settled: EMPTY_SETTLE without a verdict, the stale mark cleared, the run restarted
from the sample (R106, R110). -/
def Scale.chargeLifted (gross : Int) (c : Scale) : Scale :=
  { c with state := .emptySettle, stale := false }.restartRun gross

/-- A judged charge is removed: EMPTY_SETTLE, the held verdict discarded, the run restarted from the sample (R106, R111). -/
def Scale.chargeRemoved (gross : Int) (c : Scale) : Scale :=
  { c with state := .emptySettle, held := none }.restartRun gross

/-- The auto-zero judges a stable value as a tare; with the new tare the net of the sample that completed it is 0 (R108).
Nothing else recomputes a net: log 26. -/
def Scale.autoZero (gross : Int) (c : Scale) : Scale :=
  if (gross.natAbs : Int) ≤ c.settings.tareLimit then
    { c with tare := gross, state := .empty, lastSample := some (.raw c.lastRaw gross 0) }
  else { c with faultGross := some gross, state := .tareFault }

/-- The rule of the scale state at a RAW sample, after the run update; `stable` says that the run became stable at this
sample (R107..R112). -/
def State.rawRule (s : State) (gross net : Int) (stable : Bool) : State :=
  let c := s.scale
  match c.state with
  | .emptySettle =>
    if c.settings.placeThreshold ≤ net then { s with scale := c.toLoading true gross }
    else if stable then { s with scale := c.autoZero gross }
    else s
  | .empty => if c.settings.placeThreshold ≤ net then { s with scale := c.toLoading false gross } else s
  | .loading =>
    if net < c.settings.emptyThreshold then { s with scale := c.chargeLifted gross }
    else if stable then s.verdictEvent net
    else s
  | .removeWait => if net < c.settings.emptyThreshold then { s with scale := c.chargeRemoved gross } else s
  | .tareFault => s

/-- A load-cell sample arrives (R103): it becomes the last sample, a RAW one also the last raw; the run is updated and
the rule of the scale state acts. OVERLOAD clears the run and makes no test (R104, R105). -/
def State.sampleScale (s : State) (sample : LoadSample) : State :=
  match sample with
  | .overload => { s with scale := { s.scale with lastSample := some .overload }.clearRun }.settle
  | .raw v =>
    let gross := grossMass s.cell.rounding s.scale.settings v.toInt
    let net := netMass s.scale.tare gross
    let before := s.scale
    let after := ({ s.scale with lastSample := some (.raw v.toInt gross net), lastRaw := v.toInt } : Scale).updateRun gross
    (({ s with scale := after } : State).rawRule gross net (becameStable before after)).settle

/-- The meaning of LOAD_CELL_SAMPLE (R103). -/
def execLoadCellSample (sample : LoadSample) (s : State) : Host.Outcome State Fault Refusal :=
  .next (s.sampleScale sample)

/-! ## SCALE_SET and SCALE_ZERO -/

/-- The settings SCALE_SET carries (6.6.1). -/
def settingsOf (zero gain : BitVec 32) (band : BitVec 16) (qualify : Byte) (place empty tareLimit : BitVec 32) :
    ScaleSettings where
  zero := zero.toInt
  gain := gain.toNat
  band := band.toNat
  qualify := qualify.toNat
  placeThreshold := place.toInt
  emptyThreshold := empty.toInt
  tareLimit := tareLimit.toInt

/-- The first setting out of range, by its field number (6.6.1, R118). -/
def failingSetting (k : ScaleSettings) : Option Nat :=
  if ¬(-8388608 ≤ k.zero ∧ k.zero ≤ 8388607) then some 1
  else if ¬(1 ≤ k.gain ∧ k.gain ≤ 16777215) then some 2
  else if ¬(1 ≤ k.band ∧ k.band ≤ 1000) then some 3
  else if ¬(3 ≤ k.qualify ∧ k.qualify ≤ 50) then some 4
  else if ¬(1 ≤ k.placeThreshold ∧ k.placeThreshold ≤ 8388607) then some 5
  else if ¬(1 ≤ k.emptyThreshold ∧ k.emptyThreshold ≤ 8388606 ∧ k.emptyThreshold < k.placeThreshold) then some 6
  else if ¬(0 ≤ k.tareLimit ∧ k.tareLimit ≤ 100000) then some 7
  else none

/-- The seven settings in the widths of SCALE_SET's fields (R184, R188). -/
def ScaleSettings.bytes (k : ScaleSettings) : List Byte :=
  int32 k.zero ++ num32 k.gain ++ num16 k.band ++ num8 k.qualify ++ int32 k.placeThreshold ++ int32 k.emptyThreshold ++
  int32 k.tareLimit

/-- The scale after a SCALE_SET is taken: new settings, EMPTY_SETTLE, no run, no verdict, no fault gross; the tare is
kept (R119). -/
def Scale.configure (k : ScaleSettings) (c : Scale) : Scale :=
  { c with settings := k, state := .emptySettle, stale := false, held := none, faultGross := none }.clearRun

/-- SCALE_SET (R118, R119). -/
def serveScaleSet (zero gain : BitVec 32) (band : BitVec 16) (qualify : Byte) (place empty tareLimit : BitVec 32)
    (s : State) : State × Reply :=
  let k := settingsOf zero gain band qualify place empty tareLimit
  match failingSetting k with
  | some field => (s, rangeReply field)
  | none =>
    if s.scale.state = .loading then (s, stateReply)
    else
      let s := ({ s with scale := s.scale.configure k } : State).settle
      (s, okReply s.scale.settings.bytes)

/-- The meaning of SCALE_SET (R119). -/
def execScaleSet (zero gain : BitVec 32) (band : BitVec 16) (qualify : Byte) (place empty tareLimit : BitVec 32)
    (s : State) : Host.Outcome State Fault Refusal :=
  .next (s.request (.scaleSet zero gain band qualify place empty tareLimit)
    (serveScaleSet zero gain band qualify place empty tareLimit))

/-- The scale after a SCALE_ZERO is taken: zero from the last raw, no tare, EMPTY_SETTLE, no run (R120). -/
def Scale.rezero (c : Scale) : Scale :=
  { c with settings := { c.settings with zero := c.lastRaw }, tare := 0, state := .emptySettle, stale := false,
           faultGross := none }.clearRun

/-- SCALE_ZERO (R120). -/
def serveScaleZero (s : State) : State × Reply :=
  if s.scale.state = .loading ∨ s.scale.state = .removeWait then (s, stateReply)
  else
    let s := ({ s with scale := s.scale.rezero } : State).settle
    (s, okReply (int32 s.scale.settings.zero))

/-- The meaning of SCALE_ZERO (R120). -/
def execScaleZero (s : State) : Host.Outcome State Fault Refusal := .next (s.request .scaleZero serveScaleZero)

/-! ## SCALE_STATUS -/

/-- The class and values of a last sample (R121, R188): classes in the order RAW, OVERLOAD; the values have no presence
byte of their own. -/
def ScaleSample.bytes : ScaleSample → List Byte
  | .raw value gross net => num8 0 ++ int32 value ++ int32 gross ++ int32 net
  | .overload => num8 1 ++ List.replicate 12 0

/-- The verdict record in the order of R113 (R188). -/
def VerdictRecord.bytes (v : VerdictRecord) : List Byte :=
  num8 v.verdict.code ++ int32 v.mass ++ le32 v.time ++ optionalItem 1 (fun p : PressId => num8 p.val) v.press ++
  optionalItem 4 num32 v.serial ++ flagByte v.tareStale

/-- The bytes a verdict record takes. -/
def verdictWidth : Nat := 17

/-- The contents of SCALE_STATUS in the order of R121. -/
def scaleContents (s : State) : List Byte :=
  let c := s.scale
  num8 c.state.code ++ optionalItem 13 ScaleSample.bytes c.lastSample ++ int32 c.lastRaw ++ int32 c.tare ++
  optionalItem 4 int32 c.anchor ++ num8 c.count ++ flagByte c.isStable ++ flagByte c.stale ++
  optionalItem 4 int32 (if c.state = .tareFault then c.faultGross else none) ++
  optionalItem verdictWidth VerdictRecord.bytes (if c.state = .removeWait then c.held else none) ++
  c.settings.bytes ++ num8 s.cell.rounding.code ++ listItem 1 (fun p : PressId => num8 p.val) c.queue

/-- SCALE_STATUS (R121). -/
def serveScaleStatus (s : State) : State × Reply := (s, okReply (scaleContents s))

/-- The meaning of SCALE_STATUS (R121). -/
def execScaleStatus (s : State) : Host.Outcome State Fault Refusal := .next (s.request .scaleStatus serveScaleStatus)

end Sys2Proof.Machine
end

