-- ==== Sys2Proof/Machine/Cell.lean ====
section
/-! DEFINITION. The requests the message link owns (9.6): IDENT, CELL_SET, CELL_READ and RESTART, and the event
POWER_ON (R182). -/

namespace Sys2Proof.Machine

/-! ## IDENT -/

/-- The contents of IDENT in the order of R177: vendor and part code, presses, zones per press, slots, history capacity,
attention levels, line rate, cell clock, discarded-frame count. -/
def identContents (s : State) : List Byte :=
  [0x4E] ++ num8 48 ++ num8 4 ++ num8 8 ++ num8 8 ++ num8 Config.historyCapacity ++ num8 12 ++ flagByte s.link.fast ++
  le32 s.clock ++ num16 s.link.discarded

/-- IDENT (R177). -/
def serveIdent (s : State) : State × Reply := (s, okReply (identContents s))

/-- The meaning of IDENT (R177). -/
def execIdent (s : State) : Host.Outcome State Fault Refusal := .next (s.request .ident serveIdent)

/-! ## CELL_SET and CELL_READ -/

/-- The three settings in the widths of CELL_SET's fields, and the exhausted mark (R179, R180). -/
def cellContents (s : State) : List Byte :=
  num8 s.cell.rounding.code ++ num8 s.cell.filterTime ++ num32 s.history.nextSerial ++ flagByte s.history.exhausted

/-- The first field of CELL_SET that fails (R178): a rounding mode in 4..254, a filter time above 100, a next serial below
the one in force; a keep value always passes. -/
def failingCellField (rounding filterTime : Byte) (serial : BitVec 32) (s : State) : Option Nat :=
  if 4 ≤ rounding.toNat ∧ rounding.toNat ≤ 254 then some 1
  else if 100 < filterTime.toNat then some 2
  else if serial ≠ 0 ∧ serial.toNat < s.history.nextSerial then some 3
  else none

/-- The settings applied, each field that holds its keep value leaving its setting (R179). -/
def State.applyCell (rounding filterTime : Byte) (serial : BitVec 32) (s : State) : State :=
  { s with
      cell :=
        { rounding := (roundingOfCode rounding.toNat).getD s.cell.rounding
          filterTime := if filterTime = 0 then s.cell.filterTime else filterTime.toNat }
      history := { s.history with nextSerial := if serial = 0 then s.history.nextSerial else serial.toNat } }

/-- CELL_SET (R178, R179). -/
def serveCellSet (rounding filterTime : Byte) (serial : BitVec 32) (s : State) : State × Reply :=
  match failingCellField rounding filterTime serial s with
  | some field => (s, rangeReply field)
  | none =>
    let s := s.applyCell rounding filterTime serial
    (s, okReply (cellContents s))

/-- The meaning of CELL_SET (R179). -/
def execCellSet (rounding filterTime : Byte) (nextSerial : BitVec 32) (s : State) : Host.Outcome State Fault Refusal :=
  .next (s.request (.cellSet rounding filterTime nextSerial) (serveCellSet rounding filterTime nextSerial))

/-- CELL_READ (R180). -/
def serveCellRead (s : State) : State × Reply := (s, okReply (cellContents s ++ flagByte s.link.fast))

/-- The meaning of CELL_READ (R180). -/
def execCellRead (s : State) : Host.Outcome State Fault Refusal := .next (s.request .cellRead serveCellRead)

/-! ## RESTART -/

/-- A press after RESTART: OFFLINE with its setup, captures and filters kept, outputs and forced level off, change flags
clear, no windows; zones at power-on values; NOT_READY, segment 0, setpoints for OFF; no last-step record
(R5, R61, R82, R102). -/
def Press.restart (recipe : Option Recipe) (x : Press) : Press :=
  { x.enter .offline with
      forced := false
      stroke := none
      changes := {}
      windowStart := none
      zones := Vector.replicate 8 Zone.reset
      segment := 0
      frozen := false
      ready := false
      run := 0
      lastStep := none }.withSetpoints recipe .off

/-- The scale after RESTART: settings, tare, last sample and last raw kept (R124). -/
def Scale.restart (c : Scale) : Scale :=
  { c with state := .emptySettle, stale := false, held := none, faultGross := none, queue := [] }.clearRun

/-- Every block takes its RESTART values as one event; the conditions that still hold are handed on again to the reset
attention controller (R165, R181). -/
def State.restart (s : State) : State :=
  let t := s.modAll fun p x => x.restart (s.recipeOf p)
  ({ t with heat := .reset, scale := s.scale.restart, attention := .reset } : State).settle

/-- A press holds a cycle context, so that RESTART is refused (R181). -/
def State.anyContext (s : State) : Bool := allPresses.any fun p => (s.press p).state.holdsContext

/-- RESTART (R181). -/
def serveRestart (s : State) : State × Reply :=
  if s.anyContext then (s, stateReply) else (s.restart, okReply [])

/-- The meaning of RESTART (R181). -/
def execRestart (s : State) : Host.Outcome State Fault Refusal := .next (s.request .restart serveRestart)

/-! ## POWER_ON -/

/-- The meaning of POWER_ON: RESET_N is asserted and released with the strap at a level; every block takes its power-on
values (R4, R27, R60, R62, R82, R102, R123, R139, R164, R182). The commands that wait are the model's own queue and
stay: log 20. -/
def execPowerOn (strap : Bool) (s : State) : Host.Outcome State Fault Refusal :=
  .next { State.powerOn strap with pending := s.pending }

end Sys2Proof.Machine
end

