-- ==== Sys2Proof/Machine/Recipe.lean ====
section
/-! DEFINITION. The recipe table and the press setup (chapter 2). -/

namespace Sys2Proof.Machine

/-! ## Checking and clamping -/

/-- A signed value lies in a range. -/
def inRange (low high v : Int) : Bool := decide (low ≤ v) && decide (v ≤ high)

/-- The structural checks of a recipe in the order of R28: for each, the failing field, the element, and whether the
value passes (R28, R29). -/
def recipeChecks (r : RecipeWire) : List (Nat × Nat × Bool) :=
  [(1, 0, inRange 500 3000 r.baseTemp.toInt),
   (2, 0, inRange 500 3200 r.spLimit.toInt && decide (r.baseTemp.toInt ≤ r.spLimit.toInt))] ++
  (List.finRange 8).map (fun k => (5, k.val + 1, decide (r.durations[k].toNat ≤ 3600))) ++
  [(9, 0, inRange 500 10000 r.heaterWindow.toNat),
   (10, 0, inRange 5 200 r.readyBand.toNat),
   (11, 0, inRange r.readyBand.toNat 500 r.dropBand.toNat),
   (12, 0, inRange 1 600 r.readyQualify.toNat),
   (13, 0, inRange 1 600 r.dropQualify.toNat),
   (14, 0, inRange 500 3000 r.tRef.toInt),
   (15, 0, inRange 20 400 r.doubling.toNat),
   (16, 0, decide (16 ≤ r.cureTarget.toNat)),
   (17, 0, inRange 1 3600 r.minClose.toNat),
   (18, 0, inRange r.minClose.toNat 3600 r.maxClose.toNat),
   (19, 0, inRange 1 Config.massMax r.chargeMin.toInt),
   (20, 0, inRange 1 Config.massMax r.chargeMax.toInt && decide (r.chargeMin.toInt ≤ r.chargeMax.toInt)),
   (21, 0, decide (r.ejectDelay.toNat ≤ 5000)),
   (22, 0, inRange 50 5000 r.ejectWidth.toNat),
   (23, 0, decide (r.rounding.toNat ≤ 4))]

/-- The first structural field out of range, with its element; none when every check passes (R29). kp and ki hold
every value their byte can carry. -/
def failingField (r : RecipeWire) : Option (Nat × Nat) :=
  ((recipeChecks r).find? fun c => !c.2.2).map fun c => (c.1, c.2.1)

/-- The recipe that a checked record is stored as, its soft fields clamped (R30). -/
def storedRecipe (r : RecipeWire) : Recipe where
  baseTemp := r.baseTemp.toInt
  spLimit := r.spLimit.toInt
  standbyTemp := clampInt 0 r.baseTemp.toInt r.standbyTemp.toInt
  zoneTrim := r.zoneTrim.map fun v => clampInt (-200) 200 v.toInt
  durations := r.durations.map BitVec.toNat
  offsets := r.offsets.map fun v => clampInt (-500) 500 (offsetValue v)
  kp := r.kp.toNat
  ki := r.ki.toNat
  maxDuty := (clampInt 0 1000 r.maxDuty.toInt).toNat
  heaterWindow := r.heaterWindow.toNat
  readyBand := r.readyBand.toNat
  dropBand := r.dropBand.toNat
  readyQualify := r.readyQualify.toNat
  dropQualify := r.dropQualify.toNat
  tRef := r.tRef.toInt
  doubling := r.doubling.toNat
  cureTarget := r.cureTarget.toNat
  minClose := r.minClose.toNat
  maxClose := r.maxClose.toNat
  chargeMin := r.chargeMin.toInt
  chargeMax := r.chargeMax.toInt
  ejectDelay := r.ejectDelay.toNat
  ejectWidth := r.ejectWidth.toNat
  rounding := r.rounding.toNat

/-- The CLAMPED indication: the field numbers among 3, 4, 5 and 8 in which a value was moved, as a set (R30, R188). -/
def clampedSet (r : RecipeWire) : Nat :=
  (if inRange 0 r.baseTemp.toInt r.standbyTemp.toInt then 0 else 2 ^ 3) +
  (if r.zoneTrim.toList.all (fun v => inRange (-200) 200 v.toInt) then 0 else 2 ^ 4) +
  (if r.offsets.toList.all (fun v => inRange (-500) 500 (offsetValue v)) then 0 else 2 ^ 5) +
  (if inRange 0 1000 r.maxDuty.toInt then 0 else 2 ^ 8)

/-- A stored recipe in the layout of the recipe record (10.5, R34). -/
def Recipe.wire (r : Recipe) : RecipeWire where
  baseTemp := BitVec.ofInt 16 r.baseTemp
  spLimit := BitVec.ofInt 16 r.spLimit
  standbyTemp := BitVec.ofInt 16 r.standbyTemp
  zoneTrim := r.zoneTrim.map (BitVec.ofInt 16)
  durations := r.durations.map (BitVec.ofNat 16)
  offsets := r.offsets.map offsetWord
  kp := BitVec.ofNat 8 r.kp
  ki := BitVec.ofNat 8 r.ki
  maxDuty := BitVec.ofNat 16 r.maxDuty
  heaterWindow := BitVec.ofNat 16 r.heaterWindow
  readyBand := BitVec.ofNat 16 r.readyBand
  dropBand := BitVec.ofNat 16 r.dropBand
  readyQualify := BitVec.ofNat 16 r.readyQualify
  dropQualify := BitVec.ofNat 16 r.dropQualify
  tRef := BitVec.ofInt 16 r.tRef
  doubling := BitVec.ofNat 16 r.doubling
  cureTarget := BitVec.ofNat 16 r.cureTarget
  minClose := BitVec.ofNat 16 r.minClose
  maxClose := BitVec.ofNat 16 r.maxClose
  chargeMin := BitVec.ofInt 32 r.chargeMin
  chargeMax := BitVec.ofInt 32 r.chargeMax
  ejectDelay := BitVec.ofNat 16 r.ejectDelay
  ejectWidth := BitVec.ofNat 16 r.ejectWidth
  rounding := BitVec.ofNat 8 r.rounding

/-! ## The in-use lock -/

/-- A press's setup names a slot. -/
def Press.names (x : Press) (slot : SlotId) : Bool :=
  match x.setup with
  | some u => u.slot == slot
  | none => false

/-- A slot is in use while a press that is not OFFLINE names it (R31). -/
def State.slotInUse (s : State) (slot : SlotId) : Bool :=
  allPresses.any fun p => (s.press p).names slot && decide ((s.press p).state ≠ .offline)

/-! ## The recipe requests -/

/-- A slot takes a recipe, and each OFFLINE press that names it adopts the new contents: readiness reset, manual
duties re-bounded, setpoints recomputed (R32, R33). -/
def State.storeRecipe (s : State) (slot : SlotId) (r : Recipe) : State :=
  let s : State := { s with recipes := s.recipes.set slot (some r) }
  s.modAll fun _ x =>
    if x.names slot && x.state == .offline then
      (x.resetReadiness.reboundManual r.maxDuty).withSetpoints (some r) s.heat.state
    else x

/-- RECIPE_WRITE (R29, R32). -/
def serveRecipeWrite (slot : Byte) (recipe : RecipeWire) (s : State) : State × Reply :=
  match slotOf slot with
  | none => (s, recipeRangeReply 0 0)
  | some n =>
    match failingField recipe with
    | some (field, element) => (s, recipeRangeReply field element)
    | none =>
      if s.slotInUse n then (s, inUseReply)
      else ((s.storeRecipe n (storedRecipe recipe)).settle, okReply (num32 (clampedSet recipe)))

/-- The meaning of RECIPE_WRITE (R32). -/
def execRecipeWrite (slot : Byte) (recipe : RecipeWire) (s : State) : Host.Outcome State Fault Refusal :=
  .next (s.request (.recipeWrite slot recipe) (serveRecipeWrite slot recipe))

/-- The set of presses for which a test holds, as one byte (R188). -/
def pressSet (s : State) (test : Press → Bool) : List Byte :=
  num8 (setNumber (allPresses.map fun p => test (s.press p)))

/-- RECIPE_READ (R34, 10.5). -/
def serveRecipeRead (slot : Byte) (s : State) : State × Reply :=
  match slotOf slot with
  | none => (s, rangeReply 1)
  | some n =>
    match s.recipes[n] with
    | none => (s, notFoundReply)
    | some r =>
      (s, okReply (num8 n.val ++ r.wire.bytes ++ pressSet s (fun x => x.names n) ++
        pressSet s (fun x => x.names n && decide (x.state ≠ .offline))))

/-- The meaning of RECIPE_READ (R34). -/
def execRecipeRead (slot : Byte) (s : State) : Host.Outcome State Fault Refusal :=
  .next (s.request (.recipeRead slot) (serveRecipeRead slot))

/-- A slot becomes EMPTY, and each OFFLINE press that names it loses its setup: readiness reset, setpoints 0 (R35). -/
def State.clearRecipe (s : State) (slot : SlotId) : State :=
  let s : State := { s with recipes := s.recipes.set slot none }
  s.modAll fun _ x =>
    if x.names slot && x.state == .offline then
      { x.resetReadiness with setup := none }.withSetpoints none s.heat.state
    else x

/-- RECIPE_CLEAR (R35). -/
def serveRecipeClear (slot : Byte) (s : State) : State × Reply :=
  match slotOf slot with
  | none => (s, rangeReply 1)
  | some n =>
    if s.slotInUse n then (s, inUseReply)
    else if s.recipes[n] = none then (s, okReply [])
    else ((s.clearRecipe n).settle, okReply [])

/-- The meaning of RECIPE_CLEAR (R35). -/
def execRecipeClear (slot : Byte) (s : State) : Host.Outcome State Fault Refusal :=
  .next (s.request (.recipeClear slot) (serveRecipeClear slot))

/-! ## PRESS_SETUP -/

/-- An OFFLINE press takes a setup: readiness reset, manual duties re-bounded, setpoints recomputed (R39, R69). -/
def State.setUpPress (s : State) (p : PressId) (u : Setup) (r : Recipe) : State :=
  s.modPress p fun x =>
    ({ x with setup := some u }.resetReadiness.reboundManual r.maxDuty).withSetpoints (some r) s.heat.state

/-- PRESS_SETUP (R39): RANGE in field order, then STATE, then NOT_FOUND. -/
def servePressSetup (press slot zones gating : Byte) (s : State) : State × Reply :=
  withPress press s fun p =>
    match slotOf slot with
    | none => (s, rangeReply 2)
    | some n =>
      if zones = 0 then (s, rangeReply 3)
      else match gatingOf gating with
        | none => (s, rangeReply 4)
        | some g =>
          if (s.press p).state ≠ .offline then (s, stateReply)
          else match s.recipes[n] with
            | none => (s, notFoundReply)
            | some r => ((s.setUpPress p { slot := n, zones := zones, gating := g } r).settle, okReply [])

/-- The meaning of PRESS_SETUP (R39). -/
def execPressSetup (press slot zones gating : Byte) (s : State) : Host.Outcome State Fault Refusal :=
  .next (s.request (.pressSetup press slot zones gating) (servePressSetup press slot zones gating))

end Sys2Proof.Machine
end

