-- ==== Sys2Proof/Machine/Cure.lean ====
section
/-! DEFINITION. The cure unit (chapter 5): the stages of a cure step, the demould decision, and CURE_STATUS. -/

namespace Sys2Proof.Machine

/-! ## The stages of a step -/

/-- The mantissa table: entry f is 2^(f/64) × 32768 rounded to the nearest integer (R91). -/
def mantissaTable : List Nat :=
  [32768, 33125, 33486, 33850, 34219, 34591, 34968, 35349] ++
  [35734, 36123, 36516, 36914, 37316, 37722, 38133, 38548] ++
  [38968, 39392, 39821, 40255, 40693, 41136, 41584, 42037] ++
  [42495, 42958, 43425, 43898, 44376, 44859, 45348, 45842] ++
  [46341, 46846, 47356, 47871, 48393, 48920, 49452, 49991] ++
  [50535, 51085, 51642, 52204, 52773, 53347, 53928, 54515] ++
  [55109, 55709, 56316, 56929, 57549, 58176, 58809, 59449] ++
  [60097, 60751, 61413, 62081, 62757, 63441, 64132, 64830]

/-- The coldest counted zone: the least temperature used, the lowest-numbered of those that share it (R85). -/
def Press.coldest (x : Press) : Option ZoneId :=
  x.countedZones.foldl (fun best z => match best with
    | none => some z
    | some b => if x.zones[z].lastGood < x.zones[b].lastGood then some z else some b) none

/-- The rounding mode of a step: the recipe's for codes 0..3, the cell default for code 4 (R87). -/
def effectiveMode (cell : RoundingMode) (r : Recipe) : RoundingMode := (roundingOfCode r.rounding).getD cell

/-- Stage 1 before the clamp: delta × 64 / doubling, rounded (R88). -/
def rawExponent (mode : RoundingMode) (r : Recipe) (delta : Int) : Int := roundQuotient mode (delta * 64) r.doubling

/-- The clamp of stage 1 (R89). -/
def clampExponent (x : Int) : Int := clampInt (-1024) 384 x

/-- Stage 4: M × 2^n for n at least 0, and M / 2^−n rounded otherwise (R92, R93). -/
def increment (mode : RoundingMode) (mantissa : Nat) (whole : Int) : Nat :=
  if 0 ≤ whole then mantissa * 2 ^ whole.toNat
  else (roundQuotient mode (mantissa : Int) (2 ^ (-whole).toNat)).toNat

/-- Stages 0 to 3 for a press with a counted zone (R85, R88..R91). -/
def stepRate (cell : RoundingMode) (r : Recipe) (x : Press) (coldest : ZoneId) : StepRate :=
  let mode := effectiveMode cell r
  let delta := x.zones[coldest].lastGood - r.tRef
  let raw := rawExponent mode r delta
  let e := clampExponent raw
  { coldest := coldest
    teff := x.zones[coldest].lastGood
    delta := delta
    mode := mode
    rawExponent := raw
    exponent := e
    whole := e / 64
    fraction := (e % 64).toNat
    mantissa := mantissaTable.getD (e % 64).toNat 0 }

/-- The target of a recipe, cu (R96). -/
def targetCu (r : Recipe) : Nat := r.cureTarget * Config.cuPerSixteenth

/-- The demould decision of a press in CURING, with the span from close and the accumulator of this step (R97). -/
def demouldDecision (r : Recipe) (span accumulator : Nat) : Decision :=
  if r.maxClose * 1000 ≤ span then .dueAtMaxClose
  else if targetCu r ≤ accumulator ∧ r.minClose * 1000 ≤ span then .due
  else .notDue

/-! ## The step of a press scan -/

/-- The increment of a step: 0 for a stalled one (R86). -/
def StepRate.incrementOf (rate : Option StepRate) : Nat :=
  match rate with
  | some q => increment q.mode q.mantissa q.whole
  | none => 0

/-- The flags a step adds as its stages reach them: CURE_STALLED without a counted zone, RATE_CLAMPED above the upper
clamp (R86, R89). -/
def stepFlags (rate : Option StepRate) (f : RecordFlags) : RecordFlags :=
  match rate with
  | none => { f with cureStalled := true }
  | some q => if 384 < q.rawExponent then { f with rateClamped := true } else f

/-- Stage 5: the accumulator and the step count, each saturating (R95). -/
def CycleContext.accumulate (inc : Nat) (c : CycleContext) : CycleContext :=
  { c with
      accumulator := some (min Config.accumulatorMax (c.accumulator.getD 0 + inc))
      stepCount := some (min Config.stepCountMax (c.stepCount.getD 0 + 1)) }

/-- One cure step of a press with a context and a recipe, taken at a time: stages 0 to 5, the last-step record, and in
CURING the demould decision with the move it makes (R13, R83, R97, R99, R100). -/
def Press.cureStep (cell : RoundingMode) (r : Recipe) (now : Clock) (c : CycleContext) (x : Press) : Press :=
  let rate := x.coldest.map (stepRate cell r x)
  let inc := StepRate.incrementOf rate
  let c := (c.onFlags (stepFlags rate)).accumulate inc
  let acc := c.accumulator.getD 0
  let span := spanMs now (c.panel.closeTime.getD 0)
  let decision := if x.state = .curing then demouldDecision r span acc else .noDecision
  let under := decision = .dueAtMaxClose ∧ acc < targetCu r
  let c := if under then c.onFlags fun f => { f with undercure := true } else c
  let x := { x with
      context := some c
      lastStep := some
        { time := now, number := c.stepCount.getD 0, counted := x.countedZones.length, rate := rate, increment := inc,
          decision := decision } }
  match decision with
  | .due | .dueAtMaxClose => x.enter .demouldDue
  | .notDue | .noDecision => x

/-- The cure unit at a press scan: a step in CURING and DEMOULD_DUE, nothing in any other state (R83). A press in those
states always holds a context and a recipe; log 19. -/
def State.cureScan (s : State) (p : PressId) : State :=
  if (s.press p).state.isClosed then
    match (s.press p).context, s.recipeOf p with
    | some c, some r => s.modPress p (Press.cureStep s.cell.rounding r s.clock c)
    | _, _ => s
  else s

/-! ## CURE_STATUS -/

/-- The accumulator and step count a press reports: running in CURING and DEMOULD_DUE, those at open while the context
holds them, none otherwise (R26, R101). -/
def Press.cureValues (x : Press) : Option Nat × Option Nat :=
  match x.context with
  | none => (none, none)
  | some c =>
    if x.state.isClosed then (c.accumulator, c.stepCount)
    else (c.panel.accumulatorAtOpen, c.panel.stepCountAtOpen)

/-- The target a press reports: its recipe's, or 0 without a setup (R96). -/
def State.targetOf (s : State) (p : PressId) : Nat :=
  match s.recipeOf p with | some r => targetCu r | none => 0

/-- The bytes of a last-step record (R100, R188): the items present when a zone counted have a presence byte each. -/
def StepRecord.bytes (q : StepRecord) : List Byte :=
  num32 q.time.toNat ++ num16 q.number ++ num8 q.counted ++
  optionalItem 1 (fun k : StepRate => num8 k.coldest.val) q.rate ++
  optionalItem 2 (fun k : StepRate => int16 k.teff) q.rate ++
  optionalItem 2 (fun k : StepRate => int16 k.delta) q.rate ++
  optionalItem 1 (fun k : StepRate => num8 k.mode.code) q.rate ++
  optionalItem 2 (fun k : StepRate => int16 k.rawExponent) q.rate ++
  optionalItem 2 (fun k : StepRate => int16 k.exponent) q.rate ++
  optionalItem 1 (fun k : StepRate => int8 k.whole) q.rate ++
  optionalItem 1 (fun k : StepRate => num8 k.fraction) q.rate ++
  optionalItem 2 (fun k : StepRate => num16 k.mantissa) q.rate ++
  num32 q.increment ++ num8 q.decision.code

/-- The bytes a last-step record takes. -/
def stepRecordWidth : Nat := 35

/-- The contents of CURE_STATUS in the order of R101. -/
def cureContents (s : State) (p : PressId) : List Byte :=
  let x := s.press p
  let acc := x.cureValues.1
  num8 x.state.code ++
  optionalItem 4 num32 acc ++ optionalItem 2 num16 x.cureValues.2 ++
  num32 (s.targetOf p) ++
  optionalItem 4 num32 (acc.map fun a => s.targetOf p - a) ++
  optionalItem 4 num32 (if x.state.isClosed then
    (x.context.bind fun c => c.panel.closeTime).map fun t => spanMs s.clock t else none) ++
  optionalItem 4 num32 ((s.recipeOf p).map fun r => r.minClose * 1000) ++
  optionalItem 4 num32 ((s.recipeOf p).map fun r => r.maxClose * 1000) ++
  num8 s.cell.rounding.code ++
  optionalItem stepRecordWidth StepRecord.bytes x.lastStep

/-- CURE_STATUS (R101). -/
def serveCureStatus (press : Byte) (s : State) : State × Reply :=
  withPress press s fun p => (s, okReply (cureContents s p))

/-- The meaning of CURE_STATUS (R101). -/
def execCureStatus (press : Byte) (s : State) : Host.Outcome State Fault Refusal :=
  .next (s.request (.cureStatus press) (serveCureStatus press))

end Sys2Proof.Machine
end

