-- ==== Sys2Proof/Machine/History.lean ====
section
/-! DEFINITION. The part history (chapter 7): HISTORY_STATUS, HISTORY_READ, HISTORY_ACK with the release of held
presses, and the layout of the part record (10.6). -/

namespace Sys2Proof.Machine

/-! ## The layout of a record -/

/-- The presence set of a panel's record (R186); bit 8, class, is given apart. -/
def PanelRecord.presence (r : PanelRecord) (graded : Bool) : Nat :=
  setNumber [r.closeTime.isSome, r.openTime.isSome, r.accumulatorAtOpen.isSome, r.stepCountAtOpen.isSome,
    r.devMin.isSome, r.devMax.isSome, r.contactDelay.isSome, r.commitTime.isSome, graded]

/-- The eighteen words of a record, the class word given apart; an absent field is 0 (10.6, R186). -/
def PanelRecord.words (r : PanelRecord) (grade : Option RecordClass) : List Byte :=
  num32 r.serial ++ num32 r.press.val ++ num32 r.recipe.val ++ int32 r.mass ++ le32 r.weighTime ++
  num32 (r.presence grade.isSome) ++
  valueOrZeros 4 (fun t : Clock => le32 t) r.closeTime ++ valueOrZeros 4 (fun t : Clock => le32 t) r.openTime ++
  valueOrZeros 4 num32 r.accumulatorAtOpen ++ valueOrZeros 4 num32 r.stepCountAtOpen ++
  valueOrZeros 4 int32 r.devMin ++ valueOrZeros 4 int32 r.devMax ++
  num32 r.segmentReached ++ valueOrZeros 4 num32 r.contactDelay ++ num32 r.retries ++
  valueOrZeros 4 (fun t : Clock => le32 t) r.commitTime ++
  num32 (setNumber r.flags.toList) ++ valueOrZeros 4 (fun g : RecordClass => num32 g.code) grade

/-- A part record's 72 bytes (10.6). -/
def PartRecord.bytes (r : PartRecord) : List Byte := r.panel.words (some r.grade)

/-- A cycle context's 72 bytes, the class word 0 (R186). -/
def CycleContext.bytes (c : CycleContext) : List Byte := c.panel.words none

/-! ## HISTORY_STATUS and HISTORY_READ -/

/-- The serial of a record. -/
def PartRecord.serial (r : PartRecord) : Nat := r.panel.serial

/-- An entry of the commit wait list on the wire: the press, then the serial of the context it holds (R136, R188). -/
def waitEntryBytes (s : State) (p : PressId) : List Byte :=
  num8 p.val ++ num32 (match (s.press p).context with | some c => c.panel.serial | none => 0)

/-- The contents of HISTORY_STATUS in the order of R136. -/
def historyContents (s : State) : List Byte :=
  let h := s.history
  num8 h.records.length ++ num8 (Config.historyCapacity - h.records.length) ++
  optionalItem 4 num32 (h.records.head?.map PartRecord.serial) ++
  optionalItem 4 num32 (h.records.getLast?.map PartRecord.serial) ++
  num32 h.nextSerial ++ flagByte h.exhausted ++ listItem 5 (waitEntryBytes s) h.waitList ++ flagByte h.nearFull

/-- HISTORY_STATUS (R136). -/
def serveHistoryStatus (s : State) : State × Reply := (s, okReply (historyContents s))

/-- The meaning of HISTORY_STATUS (R136). -/
def execHistoryStatus (s : State) : Host.Outcome State Fault Refusal :=
  .next (s.request .historyStatus serveHistoryStatus)

/-- HISTORY_READ (R137). -/
def serveHistoryRead (position : Byte) (s : State) : State × Reply :=
  match s.history.records[position.toNat]? with
  | none => (s, notFoundReply)
  | some r => (s, okReply (num8 position.toNat ++ num8 s.history.records.length ++ r.bytes))

/-- The meaning of HISTORY_READ (R137). -/
def execHistoryRead (position : Byte) (s : State) : Host.Outcome State Fault Refusal :=
  .next (s.request (.historyRead position) (serveHistoryRead position))

/-! ## HISTORY_ACK -/

/-- The head of the commit wait list is released: off the list, its record at the tail of the history queue, the press
to HEATING with admission evaluated (R22, R130). -/
def State.releaseHead (s : State) (p : PressId) (rest : List PressId) : State :=
  let s := { s with history := { s.history with waitList := rest } }
  match (s.press p).context with
  | some c => s.takeRecord p c
  | none => s

/-- Held presses are released in the order of the list while the history queue has room (R130). The list given is the
commit wait list as it stands. -/
def State.releaseHeld (s : State) : List PressId → State
  | [] => s
  | p :: rest =>
    if s.history.records.length < Config.historyCapacity then (s.releaseHead p rest).releaseHeld rest else s

/-- The records at positions 0..j are removed, and held presses released (R130, R138). -/
def State.acknowledge (s : State) (j : Nat) : State :=
  let s := { s with history := { s.history with records := s.history.records.drop (j + 1) } }
  s.releaseHeld s.history.waitList

/-- HISTORY_ACK (R138). -/
def serveHistoryAck (serial : BitVec 32) (s : State) : State × Reply :=
  match s.history.records.findIdx? fun r => r.serial == serial.toNat with
  | none => (s, notFoundReply)
  | some j =>
    let t := (s.acknowledge j).settle
    (t, okReply (num8 (j + 1) ++ num8 (s.history.waitList.length - t.history.waitList.length) ++
      num8 t.history.records.length ++ optionalItem 4 num32 (t.history.records.head?.map PartRecord.serial)))

/-- The meaning of HISTORY_ACK (R138). -/
def execHistoryAck (serial : BitVec 32) (s : State) : Host.Outcome State Fault Refusal :=
  .next (s.request (.historyAck serial) (serveHistoryAck serial))

end Sys2Proof.Machine
end

