-- ==== Sys2Proof/Machine/Status.lean ====
section
/-! DEFINITION. PRESS_STATUS (R26) and its reply's layout (10.7). -/

namespace Sys2Proof.Machine

/-- Time since close (R26): absent without a close time; up to now while the press is closed, up to the open time once
that is present. -/
def timeSinceClose (now : Clock) (x : Press) : Option Nat :=
  x.context.bind fun c => c.panel.closeTime.map fun close => spanMs (c.panel.openTime.getD now) close

/-- The verdict held by the scale in REMOVE_WAIT that names a press (R26). -/
def heldVerdictFor (s : State) (p : PressId) : Option VerdictRecord :=
  if s.scale.state = .removeWait then s.scale.held.filter (fun v => v.press == some p) else none

/-- The code of a stroke's phase, and the pulse start in PULSE (10.7). -/
def strokeBytes : Option Stroke → List Byte
  | none => num8 0 ++ num32 0
  | some (.delay _) => num8 1 ++ num32 0
  | some (.pulse _ start _) => num8 2 ++ le32 start

/-- The setup bytes of PRESS_STATUS: presence, slot, active zones, gating; 0 without a setup (10.7). -/
def setupBytes : Option Setup → List Byte
  | none => [0, 0, 0, 0]
  | some u => num8 1 ++ num8 u.slot.val ++ [u.zones] ++ num8 u.gating.code

/-- The 137 bytes of the OK reply after the result byte, in the order of 10.7. -/
def pressStatusContents (s : State) (p : PressId) : List Byte :=
  let x := s.press p
  let c := x.captures
  num8 x.state.code ++ setupBytes x.setup ++ flagByte x.ready ++
  num8 (setNumber [x.openPermit, x.ejector, x.closed.level, x.contact.level, x.partClear.level, x.forced]) ++
  num8 x.segment ++ num32 (x.cureValues.1.getD 0) ++ num16 (x.cureValues.2.getD 0) ++ num32 (s.targetOf p) ++
  optionalItem 4 num32 (timeSinceClose s.clock x) ++ strokeBytes x.stroke ++
  le32 c.closedRise ++ le32 c.closedFall ++ le32 c.contactRise ++ le32 c.contactFall ++ le32 c.clearRise ++
  le32 c.clearFall ++ optionalItem 72 CycleContext.bytes x.context ++
  (match heldVerdictFor s p with
    | some v => num8 v.verdict.code ++ int32 v.mass ++ num32 (v.serial.getD 0)
    | none => List.replicate 9 0) ++
  num8 (setNumber x.changes.toList) ++ num8 0

/-- PRESS_STATUS (R26): the change flags reported are cleared when the reply is formed (R25). -/
def servePressStatus (press : Byte) (s : State) : State × Reply :=
  withPress press s fun p =>
    (s.modPress p fun x => { x with changes := {} }, okReply (pressStatusContents s p))

/-- The meaning of PRESS_STATUS (R26). -/
def execPressStatus (press : Byte) (s : State) : Host.Outcome State Fault Refusal :=
  .next (s.request (.pressStatus press) (servePressStatus press))

end Sys2Proof.Machine
end

