-- ==== Sys2Proof/Machine/Heat.lean ====
section
/-! DEFINITION. The heat permit unit and the setpoint and readiness units (chapter 4): HEAT_PERMIT, HEAT_OFF,
HEAT_STATUS, the countdown and its lapse, and what a press scan does to profile, readiness and deviations. -/

namespace Sys2Proof.Machine

/-! ## The heat permit unit -/

/-- A grant of d seconds, d in 1..600: the count is replaced, the lapse flag cleared, a new countdown starts and the
heat state becomes RUN (R63, R64). -/
def State.grantHeat (s : State) (d : Nat) : State :=
  let s := { s with heat := { s.heat with
    remaining := d * Config.stepsPerSecond, lapse := false, nextStep := laterBy s.clock Config.countdownPeriod } }
  s.changeHeat .run

/-- The cell is sent to STANDBY, the lapse flag unchanged (R63). -/
def State.standByHeat (s : State) : State :=
  let s := { s with heat := { s.heat with remaining := 0 } }
  s.changeHeat .standby

/-- The heat state, remaining count and lapse flag as replies carry them (R63, R65, R81). -/
def heatContents (s : State) : List Byte :=
  num8 s.heat.state.code ++ num16 s.heat.remaining ++ flagByte s.heat.lapse

/-- HEAT_PERMIT (R63). -/
def serveHeatPermit (duration : BitVec 16) (s : State) : State × Reply :=
  let d := min duration.toNat Config.maxPermit
  let s := (if d = 0 then s.standByHeat else s.grantHeat d).settle
  (s, okReply (num16 d ++ heatContents s))

/-- The meaning of HEAT_PERMIT (R63). -/
def execHeatPermit (duration : BitVec 16) (s : State) : Host.Outcome State Fault Refusal :=
  .next (s.request (.heatPermit duration) (serveHeatPermit duration))

/-- All heat is turned off, and the cycles in progress are marked, whatever the heat state was (R65). -/
def State.turnHeatOff (s : State) : State :=
  let s := { s with heat := { s.heat with remaining := 0 } }
  (s.markCycles fun f => { f with heatOff := true }).changeHeat .off

/-- HEAT_OFF (R65). -/
def serveHeatOff (s : State) : State × Reply :=
  let s := s.turnHeatOff.settle
  (s, okReply (heatContents s))

/-- The meaning of HEAT_OFF (R65). -/
def execHeatOff (s : State) : Host.Outcome State Fault Refusal := .next (s.request .heatOff serveHeatOff)

/-- The countdown expires: STANDBY, the lapse flag set, the cycles in progress marked (R64, R66, R67). -/
def State.lapseHeat (s : State) : State :=
  let s := { s with heat := { s.heat with remaining := 0, lapse := true } }
  ((s.markCycles fun f => { f with permitLapse := true }).changeHeat .standby).settle

/-- The expiry of the countdown, which only RUN has; log 3 and 8. -/
def State.expirePermit (s : State) : State := if s.heat.state = .run then s.lapseHeat else s

/-- The meaning of PERMIT_LAPSE (R64). -/
def execPermitLapse (s : State) : Host.Outcome State Fault Refusal := .next s.expirePermit

/-- A step of the countdown: the count decreases by 1, and at 0 the countdown expires in the same event (R64).
DEDUCED: the step that reaches 0 is the lapse, since in RUN the count is above 0 (R62); log 8. -/
def State.stepCountdown (s : State) : State :=
  if s.heat.state = .run then
    if s.heat.remaining ≤ 1 then s.lapseHeat
    else { s with heat := { s.heat with
      remaining := s.heat.remaining - 1, nextStep := laterBy s.heat.nextStep Config.countdownPeriod } }
  else s

/-- The meaning of PERMIT_COUNTDOWN_STEP (R64). -/
def execPermitCountdownStep (s : State) : Host.Outcome State Fault Refusal := .next s.stepCountdown

/-! ## The profile at a press scan -/

/-- The current segment for an elapsed time since close (the table of R71). -/
def segmentAt (r : Recipe) (elapsed : Nat) : Nat :=
  let length := profileLength r
  if length = 0 then 1
  else match (List.range' 1 length).find? fun k => decide (elapsed < segmentEnd r k) with
    | some k => k
    | none => length

/-- A press scan moves an active profile that is not frozen, and freezes it at the end of its segments or at
3,600,000 ms (R71). -/
def Press.moveProfile (r : Recipe) (now close : Clock) (x : Press) : Press :=
  if x.frozen then x
  else
    let elapsed := spanMs now close
    { x with
        segment := segmentAt r elapsed
        frozen := decide (segmentEnd r (profileLength r) ≤ elapsed) || decide (Config.profileLimit ≤ elapsed) }

/-- The segment reached becomes the greater of its value and the current segment (R72). -/
def Press.raiseSegment (x : Press) : Press :=
  x.onContext (CycleContext.onPanel fun r => { r with segmentReached := max r.segmentReached x.segment })

/-- The profile unit at a press scan: in CURING and DEMOULD_DUE it moves the profile and raises the segment reached
(R71, R72). -/
def State.profileScan (s : State) (p : PressId) : State :=
  if (s.press p).state.isClosed then
    match s.recipeOf p, (s.press p).context.bind (fun c => c.panel.closeTime) with
    | some r, some close => s.modPress p fun x => (x.moveProfile r s.clock close).raiseSegment
    | _, _ => s
  else s

/-! ## Readiness and deviations at a press scan -/

/-- A zone's deviation: its temperature used minus its effective setpoint (R73). -/
def Press.deviation (x : Press) (z : ZoneId) : Int := x.zones[z].lastGood - x.setpoints[z]

/-- The deviations of the counted zones (R73). -/
def Press.deviations (x : Press) : List Int := x.countedZones.map x.deviation

/-- A scan qualifies toward READY: a zone counts and every counted deviation lies in the ready band (R74). -/
def Press.qualifies (r : Recipe) (x : Press) : Bool :=
  !x.deviations.isEmpty && x.deviations.all fun d => decide (d.natAbs ≤ r.readyBand)

/-- A scan counts toward a fall: no zone counts, or a counted deviation exceeds the drop band (R75). -/
def Press.drops (r : Recipe) (x : Press) : Bool :=
  x.deviations.isEmpty || x.deviations.any fun d => decide (r.dropBand < d.natAbs)

/-- The run goal: ready_qualify × 4 while NOT_READY, drop_qualify × 4 while READY (R74, R75, R81). -/
def runGoal (r : Recipe) (ready : Bool) : Nat := if ready then r.dropQualify * 4 else r.readyQualify * 4

/-- What a change of readiness at the end of a run does: READY_ROSE and admission at a rise; READY_FELL at a fall,
TEMP_EXCURSION in a marked state, and the return of an AUTO_GATE press from CHARGE_WAIT (R74, R77). -/
def State.turnReadiness (s : State) (p : PressId) : State :=
  if (s.press p).ready then
    let s := s.modPress p fun x =>
      let x := { x with ready := false, run := 0, changes := { x.changes with readyFell := true } }
      if x.state.isMarked then x.addFlag fun f => { f with tempExcursion := true } else x
    if (s.press p).state = .chargeWait ∧ ((s.press p).setup.map (·.gating)) = some .autoGate then s.withdraw p else s
  else
    let s := s.modPress p fun x =>
      { x with ready := true, run := 0, changes := { x.changes with readyRose := true } }
    s.evaluateAdmission p

/-- The readiness unit at a press scan (R73..R75). Without a setup, readiness is NOT_READY with run 0. -/
def State.readinessScan (s : State) (p : PressId) : State :=
  match s.recipeOf p with
  | none => s.modPress p Press.resetReadiness
  | some r =>
    let x := s.press p
    if (if x.ready then x.drops r else x.qualifies r) then
      if runGoal r x.ready ≤ x.run + 1 then s.turnReadiness p
      else s.modPress p fun x => { x with run := x.run + 1 }
    else s.modPress p fun x => { x with run := 0 }

/-- The least of a list of deviations, and of one more. -/
def leastOf (d : Int) (rest : List Int) : Int := rest.foldl min d

/-- The greatest of a list of deviations, and of one more. -/
def greatestOf (d : Int) (rest : List Int) : Int := rest.foldl max d

/-- The deviation range of a panel widened by the deviations of a scan; a scan with no counted zone leaves it (R80). -/
def PanelRecord.track (deviations : List Int) (r : PanelRecord) : PanelRecord :=
  match deviations with
  | [] => r
  | d :: rest =>
    { r with
        devMin := some (match r.devMin with | some m => min m (leastOf d rest) | none => leastOf d rest)
        devMax := some (match r.devMax with | some m => max m (greatestOf d rest) | none => greatestOf d rest) }

/-- Deviation tracking at a press scan, in CURING and DEMOULD_DUE (R80). -/
def State.deviationScan (s : State) (p : PressId) : State :=
  if (s.press p).state.isClosed then
    s.modPress p fun x => x.onContext (CycleContext.onPanel (PanelRecord.track x.deviations))
  else s

/-! ## HEAT_STATUS -/

/-- The run goal a press reports: 0 without a setup (R81). -/
def State.goalOf (s : State) (p : PressId) : Nat :=
  match s.recipeOf p with | some r => runGoal r (s.press p).ready | none => 0

/-- The contents of HEAT_STATUS in the order of R81. -/
def heatStatusContents (s : State) : List Byte :=
  heatContents s ++ allPresses.flatMap fun p =>
    let x := s.press p
    flagByte x.ready ++ num16 x.run ++ num16 (s.goalOf p) ++ num8 x.segment ++ flagByte x.frozen

/-- HEAT_STATUS (R81). -/
def serveHeatStatus (s : State) : State × Reply := (s, okReply (heatStatusContents s))

/-- The meaning of HEAT_STATUS (R81). -/
def execHeatStatus (s : State) : Host.Outcome State Fault Refusal := .next (s.request .heatStatus serveHeatStatus)

end Sys2Proof.Machine
end

