-- ==== Sys2Proof/Machine/Zone.lean ====
section
/-! DEFINITION. The zone controllers (chapter 3): supervision, the control law, heater windows, the press scan that
follows zone 7's sample, ZONE_MODE and ZONE_STATUS. -/

namespace Sys2Proof.Machine

/-! ## Supervision -/

/-- The class a sample is delivered in (R42): a conversion outside the sensor range is of class RANGE; log 16. -/
def deliveredSample (v : ZoneSample) : ZoneSample :=
  match v with
  | .temperature t => if -500 ≤ t ∧ t ≤ 5000 then .temperature t else .range
  | .openCircuit => .openCircuit
  | .range => .range

/-- A zone takes a sample as its last sample, and a good one as its last good temperature (R42). -/
def Zone.record (sample : ZoneSample) (z : Zone) : Zone :=
  match sample with
  | .temperature t => { z with lastSample := some (.temperature t), lastGood := t }
  | .openCircuit => { z with lastSample := some .openCircuit }
  | .range => { z with lastSample := some .range }

/-- A sample is good: of class TEMPERATURE (R42). -/
def goodSample : ZoneSample → Bool
  | .temperature _ => true
  | .openCircuit => false
  | .range => false

/-- The move of the sensor state at a sample (the table of R44). -/
def Zone.supervise (good : Bool) (z : Zone) : Zone :=
  match z.sensor, good with
  | .good, true => z
  | .good, false => { z with sensor := .suspect, badCount := 1 }
  | .suspect, true => { z with sensor := .good, badCount := 0 }
  | .suspect, false =>
    if 3 ≤ z.badCount + 1 then { z with sensor := .fault, goodCount := 0, badCount := 0 }
    else { z with badCount := z.badCount + 1 }
  | .fault, true =>
    if 3 ≤ z.goodCount + 1 then { z with sensor := .good, goodCount := 0 }
    else { z with goodCount := z.goodCount + 1 }
  | .fault, false => { z with goodCount := 0 }

/-! ## The control law -/

/-- The proportional term: e × kp / 16 rounded toward zero, fixed (R49). -/
def proportional (e : Int) (kp : Nat) : Int := Int.tdiv (e * (kp : Int)) 16

/-- The integral after a sample: kept when the previous output was saturated in the direction of the error, else
e × ki added and the sum clamped (R50). -/
def integrate (e : Int) (ki maxDuty previous : Nat) (i : Int) : Int :=
  if (previous = maxDuty ∧ 0 < e) ∨ (previous = 0 ∧ e < 0) then i
  else clampInt 0 Config.integralMax (i + e * (ki : Int))

/-- The output of the law: P plus floor(I / 256), clamped to 0..max_duty (R51). -/
def lawOutput (p i : Int) (maxDuty : Nat) : Nat := (clampInt 0 (maxDuty : Int) (p + i / 256)).toNat

/-- An AUTO zone runs the control law against a setpoint (R49..R51). The previous output is its pending duty. -/
def Zone.controlLaw (r : Recipe) (setpoint : Int) (z : Zone) : Zone :=
  let e := clampInt (-2000) 2000 (setpoint - z.lastGood)
  let i := integrate e r.ki r.maxDuty z.pending z.integral
  { z with integral := i, pending := lawOutput (proportional e r.kp) i r.maxDuty }

/-- A zone sets its pending duty at a sample (R48). -/
def Zone.setPending (held : Bool) (recipe : Option Recipe) (setpoint : Int) (z : Zone) : Zone :=
  if held then { z with pending := 0, integral := 0 }
  else match z.mode, recipe with
    | .auto, some r => z.controlLaw r setpoint
    | .manual, _ => { z with pending := z.manual }
    | .auto, none => { z with pending := 0, integral := 0 }
    | .off, _ => { z with pending := 0, integral := 0 }

/-! ## A sample -/

/-- What a sample makes of its zone before the pending duty is set: the sample is recorded, the sensor state moves, and
an entry into FAULT holds the zone off at once (R42, R44, R47). -/
def Zone.sampled (sample : ZoneSample) (z : Zone) : Zone :=
  let after := (z.record sample).supervise (goodSample sample)
  if after.sensor = .fault ∧ z.sensor ≠ .fault then after.holdOff else after

/-- A zone of a press takes a sample: supervision, then ZONE_FAULT_CHANGE at an entry into or a return from FAULT,
SENSOR_FAULT at an entry of an active zone in a marked state, then the pending duty (R44, R46, R48). -/
def Press.zoneSample (heat : HeatState) (recipe : Option Recipe) (z : ZoneId) (sample : ZoneSample) (x : Press) : Press :=
  let before := x.zones[z].sensor
  let x := x.modZone z (Zone.sampled sample)
  let entered := decide (x.zones[z].sensor = .fault) && decide (before ≠ .fault)
  let left := decide (x.zones[z].sensor ≠ .fault) && decide (before = .fault)
  let x := if entered || left then { x with changes := { x.changes with zoneFaultChange := true } } else x
  let x := if entered && x.isActive z && x.state.isMarked then x.addFlag fun f => { f with sensorFault := true } else x
  x.modZone z (Zone.setPending (x.heldOff heat z) recipe x.setpoints[z])

/-- The press scan of a press (R43): the profile moves, the setpoints are recomputed, readiness is evaluated, deviations
are tracked, the cure unit steps and decides, and admission is evaluated. DEDUCED: the order; log 13. -/
def State.pressScan (s : State) (p : PressId) : State :=
  (((((s.profileScan p).recomputeSetpoints p).readinessScan p).deviationScan p).cureScan p).evaluateAdmission p

/-- A converter sample arrives for a zone, and after zone 7's the press scan follows (R42, R43). -/
def State.sampleZone (s : State) (p : PressId) (z : ZoneId) (sample : ZoneSample) : State :=
  let s := s.modPress p (Press.zoneSample s.heat.state (s.recipeOf p) z (deliveredSample sample))
  (if z = 7 then s.pressScan p else s).settle

/-- The meaning of ZONE_SAMPLE (R42). -/
def execZoneSample (press : PressId) (zone : ZoneId) (sample : ZoneSample) (s : State) :
    Host.Outcome State Fault Refusal :=
  .next (s.sampleZone press zone sample)

/-! ## Heater windows -/

/-- A heater window of a press in service starts, heater_window ms after the start of the one before (R55, R56). A press
without a window sequence is left as it is: log 3. DEDUCED: the start time is that of R55, whatever the clock; log 18. -/
def State.startWindow (s : State) (p : PressId) : State :=
  match (s.press p).windowStart, s.recipeOf p with
  | some start, some r => s.modPress p (Press.startWindow (laterBy start r.heaterWindow) r.heaterWindow)
  | _, _ => s

/-- The meaning of WINDOW_START (R56). -/
def execWindowStart (press : PressId) (s : State) : Host.Outcome State Fault Refusal := .next (s.startWindow press)

/-- A zone's on-time within the current window ends and its heater turns off; an on-time that fills the window does not
end within it (R57). A press without a window sequence is left as it is: log 3 and 17. -/
def State.endOnTime (s : State) (p : PressId) (z : ZoneId) : State :=
  match (s.press p).windowStart, s.recipeOf p with
  | some _, some r =>
    if onTimeMs (s.press p).zones[z].applied r.heaterWindow < r.heaterWindow then
      s.modPress p (Press.modZone z fun q => { q with heater := false })
    else s
  | _, _ => s

/-- The meaning of ON_TIME_END (R57). -/
def execOnTimeEnd (press : PressId) (zone : ZoneId) (s : State) : Host.Outcome State Fault Refusal :=
  .next (s.endOnTime press zone)

/-! ## ZONE_MODE -/

/-- A zone takes a mode (the table of R53): AUTO keeps pending duty and integral; MANUAL stores the clamped duty, which
becomes pending when no hold-off cause holds; OFF holds the zone off at once. -/
def Press.takeMode (heat : HeatState) (bound : Nat) (z : ZoneId) (mode : ZoneMode) (duty : Nat) (x : Press) : Press :=
  match mode with
  | .auto => x.modZone z fun q => { q with mode := .auto }
  | .manual =>
    let x := x.modZone z fun q => { q with mode := .manual, manual := min duty bound }
    x.modZone z fun q => { q with pending := if x.heldOff heat z then 0 else q.manual }
  | .off => x.modZone z fun q => { q with mode := .off }.holdOff

/-- ZONE_MODE (R53): RANGE in field order. -/
def serveZoneMode (press zone mode : Byte) (duty : BitVec 16) (s : State) : State × Reply :=
  withPress press s fun p =>
    match zoneOf zone with
    | none => (s, rangeReply 2)
    | some z =>
      match zoneModeOf mode with
      | none => (s, rangeReply 3)
      | some m =>
        let s := (s.modPress p (Press.takeMode s.heat.state (dutyBound (s.recipeOf p)) z m duty.toNat)).settle
        let q := (s.press p).zones[z]
        (s, okReply (num8 q.mode.code ++ num16 q.manual))

/-- The meaning of ZONE_MODE (R53). -/
def execZoneMode (press zone mode : Byte) (duty : BitVec 16) (s : State) : Host.Outcome State Fault Refusal :=
  .next (s.request (.zoneMode press zone mode duty) (serveZoneMode press zone mode duty))

/-! ## ZONE_STATUS -/

/-- The last sample a zone reports: class TEMPERATURE with value 0 before the first (R60). -/
def Zone.reportedSample (z : Zone) : ZoneSample := z.lastSample.getD (.temperature 0)

/-- The class and value of a sample (R59, R188): classes in the order TEMPERATURE, OPEN, RANGE; the value has no
presence byte. -/
def sampleBytes : ZoneSample → List Byte
  | .temperature t => num8 0 ++ int16 t
  | .openCircuit => num8 1 ++ int16 0
  | .range => num8 2 ++ int16 0

/-- The items of one zone in the order of R59. -/
def zoneContents (x : Press) (z : ZoneId) : List Byte :=
  let q := x.zones[z]
  num8 q.sensor.code ++
  num8 (if q.sensor = .suspect then q.badCount else 0) ++ num8 (if q.sensor = .fault then q.goodCount else 0) ++
  sampleBytes q.reportedSample ++ int16 q.lastGood ++ num16 x.setpoints[z].toNat ++
  num16 q.pending ++ num16 q.applied ++ num32 q.integral.toNat ++ num8 q.mode.code ++ num16 q.manual ++
  flagByte (x.isActive z) ++ flagByte q.heater

/-- The contents of ZONE_STATUS in the order of R59; the window items are absent when the press is OFFLINE. -/
def zoneStatusContents (s : State) (p : PressId) : List Byte :=
  let x := s.press p
  let inService := decide (x.state ≠ .offline)
  optionalItem 4 (fun t : Clock => le32 t) (if inService then x.windowStart else none) ++
  optionalItem 2 num16 (if inService then (s.recipeOf p).map (·.heaterWindow) else none) ++
  allZones.flatMap (zoneContents x)

/-- ZONE_STATUS (R59). -/
def serveZoneStatus (press : Byte) (s : State) : State × Reply :=
  withPress press s fun p => (s, okReply (zoneStatusContents s p))

/-- The meaning of ZONE_STATUS (R59). -/
def execZoneStatus (press : Byte) (s : State) : Host.Outcome State Fault Refusal :=
  .next (s.request (.zoneStatus press) (serveZoneStatus press))

end Sys2Proof.Machine
end

