-- ==== Sys2Proof/Machine/Link.lean ====
section
/-! DEFINITION. The message link (chapter 9): what taking an entry does, the receiver, and the end of a reply. -/

namespace Sys2Proof.Machine

/-! ## Taking an entry -/

/-- A request is delivered to its owning block, which acts on it and forms the reply's payload (R175, R176). A command
that is no request reaches no block: the link never delivers one. -/
def serve (c : Instr) (s : State) : State × Reply :=
  match c with
  | .ident => serveIdent s
  | .cellSet rounding filterTime serial => serveCellSet rounding filterTime serial s
  | .cellRead => serveCellRead s
  | .restart => serveRestart s
  | .pressSetup press slot zones gating => servePressSetup press slot zones gating s
  | .pressEnable press => servePressEnable press s
  | .pressDisable press => servePressDisable press s
  | .pressAbort press => servePressAbort press s
  | .ejectRetry press => serveEjectRetry press s
  | .ejectForce press level => serveEjectForce press level s
  | .pressStatus press => servePressStatus press s
  | .recipeWrite slot recipe => serveRecipeWrite slot recipe s
  | .recipeRead slot => serveRecipeRead slot s
  | .recipeClear slot => serveRecipeClear slot s
  | .zoneMode press zone mode duty => serveZoneMode press zone mode duty s
  | .zoneStatus press => serveZoneStatus press s
  | .heatPermit duration => serveHeatPermit duration s
  | .heatOff => serveHeatOff s
  | .heatStatus => serveHeatStatus s
  | .cureStatus press => serveCureStatus press s
  | .scaleSet zero gain band qualify place empty tareLimit =>
    serveScaleSet zero gain band qualify place empty tareLimit s
  | .scaleZero => serveScaleZero s
  | .scaleStatus => serveScaleStatus s
  | .historyStatus => serveHistoryStatus s
  | .historyRead position => serveHistoryRead position s
  | .historyAck serial => serveHistoryAck serial s
  | .poll => servePoll s
  | .endService form level rotate => serveEndService form level rotate s
  | .setLowest level => serveSetLowest level s
  | .attnSetup mask edge nesting autoEnd rotate => serveAttnSetup mask edge nesting autoEnd rotate s
  | .attnRead => serveAttnRead s
  | .powerOn _ | .byteReceived _ | .characterDropped | .gapTimerExpiry | .replyEnd
  | .closedRise _ _ | .closedFall _ _ | .ejectContactRise _ _ | .ejectContactFall _ _ | .partClearRise _ _
  | .partClearFall _ _ | .delayEnd _ | .pulseEnd _ | .zoneSample _ _ _ | .windowStart _ | .onTimeEnd _ _
  | .loadCellSample _ | .permitLapse | .pressInputSample _ _ _ | .permitCountdownStep => (s, [])

/-- What an entry does when it is taken: a request passes the link's own tests and reaches its owner (R175); a link error
reaches no block and is answered with its result byte (R172). -/
def answer (e : Entry) (s : State) : State × Reply :=
  match e with
  | .linkError err => (s, [err.code])
  | .request kind payload =>
    match decodeRequest kind payload with
    | .unknownKind => (s, unknownKindReply)
    | .badLength => (s, badLengthReply)
    | .request c => serve c s

/-- A new entry from the receiver (R171). -/
def State.newEntry (s : State) (e : Entry) : State := s.arrive e (answer e)

/-- The end of a reply: the hand empties, or the pending entry is taken at once (R171). With nothing in hand no reply
ends: log 3. -/
def State.endReply (s : State) : State :=
  match s.link.hand, s.link.slot with
  | none, _ => s
  | some _, none => { s with link := { s.link with hand := none } }
  | some _, some e =>
    ({ s with link := { s.link with hand := none, slot := none } } : State).takeEntry e (answer e)

/-- The meaning of REPLY_END (R171). -/
def execReplyEnd (s : State) : Host.Outcome State Fault Refusal := .next s.endReply

/-! ## The receiver -/

/-- The part with its receiver replaced. -/
def State.setReceiver (s : State) (r : Receiver) : State := { s with link := { s.link with receiver := r } }

/-- The receiver returns to HUNT, the gap timer stopped (R167). DESIGN CHOICE: the buffer is emptied at once, where the
manual empties it at the next marker at the latest; safe, log 14. -/
def State.hunt (s : State) : State := s.setReceiver .reset

/-- The number of bytes a length byte announces (R168). -/
def announced (length : Byte) : Nat := length.toNat

/-- The check bytes of a frame, low byte first (R169). -/
def receivedCheck (check : List Byte) : BitVec 16 := u16At check 0

/-- The entry a complete frame becomes: a request when the computed check equals the received one, else BAD_CHECK (R169). -/
def judgedEntry (length : Byte) (body check : List Byte) : Entry :=
  if frameCheck (length :: body) = receivedCheck check then
    match body with
    | kind :: payload => .request kind payload
    | [] => .linkError .badCheck
  else .linkError .badCheck

/-- A delivered byte is handled in the receiver's state (9.2, R167..R169). -/
def State.receive (s : State) (b : Byte) : State :=
  let r := s.link.receiver
  let now := some s.clock
  match r.state with
  | .hunt =>
    if b = marker then s.setReceiver { Receiver.reset with state := .length, gapFrom := now } else s
  | .length =>
    if 1 ≤ b.toNat ∧ b.toNat ≤ 241 then s.setReceiver { r with state := .body, length := b, gapFrom := now }
    else s.hunt.newEntry (.linkError .frameLength)
  | .body =>
    let body := r.body ++ [b]
    s.setReceiver { r with
      state := if announced r.length ≤ body.length then .check else .body, body := body, gapFrom := now }
  | .check =>
    match r.check with
    | [] => s.setReceiver { r with check := [b], gapFrom := now }
    | low :: _ => s.hunt.newEntry (judgedEntry r.length r.body [low, b])

/-- The meaning of BYTE_RECEIVED (R167). -/
def execByteReceived (value : Byte) (s : State) : Host.Outcome State Fault Refusal := .next (s.receive value)

/-- The meaning of CHARACTER_DROPPED: the character is not delivered and does not restart the gap timer, so nothing
changes (R166). -/
def execCharacterDropped (s : State) : Host.Outcome State Fault Refusal := .next s

/-- The gap timer expires: an incomplete frame is abandoned, unanswered and uncounted (R170). In HUNT the timer is
stopped and nothing is abandoned: log 3. -/
def State.expireGap (s : State) : State :=
  match s.link.receiver.state with
  | .hunt => s
  | .length | .body | .check => s.hunt

/-- The meaning of GAP_TIMER_EXPIRY (R170). -/
def execGapTimerExpiry (s : State) : Host.Outcome State Fault Refusal := .next s.expireGap

end Sys2Proof.Machine
end

