-- ==== Sys2Proof/Machine/Dispatch.lean ====
section
/-! DEFINITION. The meaning of every command: one arm for each row of spec/opcode_table.json. -/

namespace Sys2Proof.Machine

/-- A command's effect on everything but the queue. -/
def exec (i : Instr) (s : State) : Host.Outcome State Fault Refusal :=
  match i with
  | .powerOn strap => Sys2Proof.Machine.execPowerOn strap s
  | .byteReceived value => Sys2Proof.Machine.execByteReceived value s
  | .characterDropped => Sys2Proof.Machine.execCharacterDropped s
  | .gapTimerExpiry => Sys2Proof.Machine.execGapTimerExpiry s
  | .replyEnd => Sys2Proof.Machine.execReplyEnd s
  | .ident => Sys2Proof.Machine.execIdent s
  | .cellSet rounding filterTime nextSerial => Sys2Proof.Machine.execCellSet rounding filterTime nextSerial s
  | .cellRead => Sys2Proof.Machine.execCellRead s
  | .restart => Sys2Proof.Machine.execRestart s
  | .pressSetup press slot zones gating => Sys2Proof.Machine.execPressSetup press slot zones gating s
  | .pressEnable press => Sys2Proof.Machine.execPressEnable press s
  | .pressDisable press => Sys2Proof.Machine.execPressDisable press s
  | .pressAbort press => Sys2Proof.Machine.execPressAbort press s
  | .ejectRetry press => Sys2Proof.Machine.execEjectRetry press s
  | .ejectForce press level => Sys2Proof.Machine.execEjectForce press level s
  | .pressStatus press => Sys2Proof.Machine.execPressStatus press s
  | .recipeWrite slot recipe => Sys2Proof.Machine.execRecipeWrite slot recipe s
  | .recipeRead slot => Sys2Proof.Machine.execRecipeRead slot s
  | .recipeClear slot => Sys2Proof.Machine.execRecipeClear slot s
  | .zoneMode press zone mode duty => Sys2Proof.Machine.execZoneMode press zone mode duty s
  | .zoneStatus press => Sys2Proof.Machine.execZoneStatus press s
  | .heatPermit duration => Sys2Proof.Machine.execHeatPermit duration s
  | .heatOff => Sys2Proof.Machine.execHeatOff s
  | .heatStatus => Sys2Proof.Machine.execHeatStatus s
  | .cureStatus press => Sys2Proof.Machine.execCureStatus press s
  | .scaleSet zero gain band qualify place empty tareLimit => Sys2Proof.Machine.execScaleSet zero gain band qualify place empty tareLimit s
  | .scaleZero => Sys2Proof.Machine.execScaleZero s
  | .scaleStatus => Sys2Proof.Machine.execScaleStatus s
  | .historyStatus => Sys2Proof.Machine.execHistoryStatus s
  | .historyRead position => Sys2Proof.Machine.execHistoryRead position s
  | .historyAck serial => Sys2Proof.Machine.execHistoryAck serial s
  | .poll => Sys2Proof.Machine.execPoll s
  | .endService form level rotate => Sys2Proof.Machine.execEndService form level rotate s
  | .setLowest level => Sys2Proof.Machine.execSetLowest level s
  | .attnSetup mask edge nesting autoEnd rotate => Sys2Proof.Machine.execAttnSetup mask edge nesting autoEnd rotate s
  | .attnRead => Sys2Proof.Machine.execAttnRead s
  | .closedRise press captured => Sys2Proof.Machine.execClosedRise press captured s
  | .closedFall press captured => Sys2Proof.Machine.execClosedFall press captured s
  | .ejectContactRise press captured => Sys2Proof.Machine.execEjectContactRise press captured s
  | .ejectContactFall press captured => Sys2Proof.Machine.execEjectContactFall press captured s
  | .partClearRise press captured => Sys2Proof.Machine.execPartClearRise press captured s
  | .partClearFall press captured => Sys2Proof.Machine.execPartClearFall press captured s
  | .delayEnd press => Sys2Proof.Machine.execDelayEnd press s
  | .pulseEnd press => Sys2Proof.Machine.execPulseEnd press s
  | .zoneSample press zone sample => Sys2Proof.Machine.execZoneSample press zone sample s
  | .windowStart press => Sys2Proof.Machine.execWindowStart press s
  | .onTimeEnd press zone => Sys2Proof.Machine.execOnTimeEnd press zone s
  | .loadCellSample sample => Sys2Proof.Machine.execLoadCellSample sample s
  | .permitLapse => Sys2Proof.Machine.execPermitLapse s
  | .pressInputSample press input level => Sys2Proof.Machine.execPressInputSample press input level s
  | .permitCountdownStep => Sys2Proof.Machine.execPermitCountdownStep s

end Sys2Proof.Machine
end

