-- ==== Sys2Proof/Machine/Tick.lean ====
section
/-! DEFINITION. What the part does by itself when no command waits: it takes its own timed events that are due in the
present millisecond, and the millisecond ends. DESIGN CHOICE: this is the step on an empty queue, and the events due
together are taken in the order of this file; log 2 and 4. -/

namespace Sys2Proof.Machine

/-- The reply in hand has left TXD by now (R171). A reply shorter than a millisecond that was taken as another ended is
found at the next millisecond's end: log 9. -/
def State.replyDue (s : State) : Bool :=
  match s.link.hand with
  | some h => notBefore s.clock h.sentAt
  | none => false

/-- 10 ms have passed since the latest byte of an incomplete frame (R170). -/
def State.gapDue (s : State) : Bool :=
  match s.link.receiver.gapFrom with
  | some t => laterBy t Config.gapLimit == s.clock
  | none => false

/-- A press's stroke ends its phase when its time has come (R16, R18). -/
def State.strokeTimer (s : State) (p : PressId) : State :=
  match (s.press p).stroke with
  | some (.delay ends) => if ends = s.clock then s.endDelay p else s
  | some (.pulse ends _ _) => if ends = s.clock then s.endPulse p else s
  | none => s

/-- A press's next window starts when the running one has lasted its length (R55). -/
def State.windowTimer (s : State) (p : PressId) : State :=
  match (s.press p).windowStart, s.recipeOf p with
  | some start, some r => if laterBy start r.heaterWindow = s.clock then s.startWindow p else s
  | _, _ => s

/-- A zone's heater turns off when its on-time within the running window has passed (R57). -/
def State.onTimeTimer (p : PressId) (s : State) (z : ZoneId) : State :=
  match (s.press p).windowStart, s.recipeOf p with
  | some start, some r =>
    let zone := (s.press p).zones[z]
    if zone.heater = true ∧ laterBy start (onTimeMs zone.applied r.heaterWindow) = s.clock then s.endOnTime p z else s
  | _, _ => s

/-- The countdown's next step is due (R64). -/
def State.countdownDue (s : State) : Bool := s.heat.state == .run && s.heat.nextStep == s.clock

/-- The timed events due in the present millisecond are taken. -/
def State.runTimers (s : State) : State :=
  let s := if s.replyDue then s.endReply else s
  let s := if s.gapDue then s.expireGap else s
  let s := allPresses.foldl State.strokeTimer s
  let s := allPresses.foldl State.windowTimer s
  let s := allPresses.foldl (fun s p => allZones.foldl (State.onTimeTimer p) s) s
  if s.countdownDue then s.stepCountdown else s

/-- The load-cell phase a millisecond on: it counts to the sample time, 20, and from there anew (R103). -/
def nextLoadPhase (n : Fin 21) : Fin 21 := if n = 20 then 1 else n + 1

/-- One millisecond passes on the cell clock and in the phases of the converter scan and the load-cell samples
(7.3, R41, R103). -/
def State.advance (s : State) : State :=
  { s with clock := s.clock + 1, scanPhase := s.scanPhase + 1, loadPhase := nextLoadPhase s.loadPhase }

/-- The present millisecond ends. -/
def State.tick (s : State) : State := s.runTimers.advance

end Sys2Proof.Machine
end

