-- ==== Sys2Proof/Machine/Step.lean ====
section
/-! DEFINITION. One step: the command at the front of the queue, or with no command waiting one millisecond of the
part's own time. -/

namespace Sys2Proof.Machine

/-- One step. The command at the front of the queue is taken and acts on the state with the queue's rest. With an empty
queue the part takes its own due timed events and a millisecond passes (DESIGN CHOICE; log 2). -/
def step (s : State) : Host.Outcome State Fault Refusal :=
  match s.pending with
  | [] => .next s.tick
  | c :: rest => exec c { s with pending := rest }

/-- The state with the command a word spells put at the front of its queue; unchanged where the word spells none. The
opcode table gives no row any bits, so no word spells a command (log 20). -/
def State.withFetchWord (s : State) (nbits w : Nat) : State :=
  match decodeTableWord nbits w with
  | some c => { s with pending := c :: s.pending }
  | none => s

end Sys2Proof.Machine
end

