-- ==== Sys2Proof/Layouts.lean ====
section
/-! DEFINITION. The layouts of the replies as tables, for the statements: for each reply the offsets of its payload with
the bytes that stand there, by the tables of chapter 10 and the contents each request's section lists (R188). The tables
read the state itself, and none of the functions that form the replies. -/

namespace Sys2Proof.Machine

/-! ## Tables -/

/-- A table of a payload's bytes: offsets, each with the bytes that stand there. -/
abbrev Layout := List (Nat × List Byte)

/-- A payload holds the bytes of every row of a table at the row's offset. -/
def Layout.holds (table : Layout) (payload : List Byte) : Prop :=
  ∀ row ∈ table, (payload.drop row.1).take row.2.length = row.2

/-- A table placed at an offset of a longer payload. -/
def Layout.shifted (table : Layout) (offset : Nat) : Layout := table.map fun row => (offset + row.1, row.2)

/-! ## Forms of items (R183, R188) -/

/-- An unsigned byte. -/
def u8 (n : Nat) : List Byte := [BitVec.ofNat 8 n]

/-- An unsigned item of two bytes. -/
def u16 (n : Nat) : List Byte := le16 (BitVec.ofNat 16 n)

/-- An unsigned item of four bytes. -/
def u32 (n : Nat) : List Byte := le32 (BitVec.ofNat 32 n)

/-- A signed byte, in two's complement. -/
def s8 (i : Int) : List Byte := [BitVec.ofInt 8 i]

/-- A signed item of two bytes, in two's complement. -/
def s16 (i : Int) : List Byte := le16 (BitVec.ofInt 16 i)

/-- A signed item of four bytes, in two's complement. -/
def s32 (i : Int) : List Byte := le32 (BitVec.ofInt 32 i)

/-- A profile offset: bit 15 is its sign, bits 14..0 its magnitude, and zero is sent with a positive sign (R34, R183). -/
def signMagnitude (i : Int) : List Byte := u16 (if i < 0 then 32768 + i.natAbs else i.natAbs)

/-- A two-valued item. -/
def bit (b : Bool) : List Byte := [if b = true then 1 else 0]

/-- The number whose bit i is set for the members i of a set. -/
def setOf (members : List Bool) : Nat := (members.zipIdx.map fun m => if m.1 = true then 2 ^ m.2 else 0).sum

/-- An item and its presence byte before it, `width` bytes of 0 standing for an absent item. -/
def given (width : Nat) : Option (List Byte) → List Byte
  | some bytes => 1 :: bytes
  | none => 0 :: List.replicate width 0

/-- An item without a presence byte, `width` bytes of 0 standing for an absent one. -/
def orZeros (width : Nat) : Option (List Byte) → List Byte
  | some bytes => bytes
  | none => List.replicate width 0

/-! ## Named values in the order of their codes (R185, R59, R100, 7.4) -/

def pressStates : List PressState :=
  [.offline, .heating, .chargeWait, .chargeReady, .curing, .demouldDue, .ejecting, .ejectFault, .unloadWait, .commitHeld]
def scaleStates : List ScaleState := [.emptySettle, .empty, .loading, .removeWait, .tareFault]
def heatStates : List HeatState := [.off, .run, .standby]
def recordClasses : List RecordClass := [.good, .suspect, .reject]
def gatings : List Gating := [.autoGate, .monitor]
def zoneModes : List ZoneMode := [.auto, .manual, .off]
def sensorStates : List SensorState := [.good, .suspect, .fault]
def decisions : List Decision := [.due, .dueAtMaxClose, .notDue, .noDecision]
def roundingModes : List RoundingMode := [.nearestEven, .towardZero, .down, .up]

/-- The verdicts from code 1 up; code 0 is no verdict. -/
def verdicts : List Verdict := [.noClaim, .noSerial, .under, .over, .accept]

/-- The code of a named value: its place in the list of its names. -/
def codeIn {α : Type} [BEq α] (names : List α) (a : α) : List Byte := u8 (names.idxOf a)

/-! ## The part record and the context form (10.6, R186) -/

/-- The record's 72 bytes for a panel, with the class of a record or none for the context form. -/
def recordTable (r : PanelRecord) (grade : Option RecordClass) : Layout :=
  [(0, u32 r.serial), (4, u32 r.press.val), (8, u32 r.recipe.val), (12, s32 r.mass), (16, le32 r.weighTime),
   (20, u32 (setOf [r.closeTime.isSome, r.openTime.isSome, r.accumulatorAtOpen.isSome, r.stepCountAtOpen.isSome,
     r.devMin.isSome, r.devMax.isSome, r.contactDelay.isSome, r.commitTime.isSome, grade.isSome])),
   (24, orZeros 4 (r.closeTime.map le32)), (28, orZeros 4 (r.openTime.map le32)),
   (32, orZeros 4 (r.accumulatorAtOpen.map u32)), (36, orZeros 4 (r.stepCountAtOpen.map u32)),
   (40, orZeros 4 (r.devMin.map s32)), (44, orZeros 4 (r.devMax.map s32)),
   (48, u32 r.segmentReached), (52, orZeros 4 (r.contactDelay.map u32)), (56, u32 r.retries),
   (60, orZeros 4 (r.commitTime.map le32)),
   (64, u32 (setOf [r.flags.undercure, r.flags.aborted, r.flags.earlyOpen, r.flags.cureStalled, r.flags.tempExcursion,
     r.flags.permitLapse, r.flags.heatOff, r.flags.rateClamped, r.flags.tareStale, r.flags.ejectRetried,
     r.flags.sensorFault])),
   (68, u32 (match grade with | some g => recordClasses.idxOf g | none => 0))]

/-- HISTORY_READ (10.6): result, position, count and the record. -/
def historyReadTable (position : Byte) (count : Nat) (record : PartRecord) : Layout :=
  [(0, [0]), (1, [position]), (2, u8 count)] ++ (recordTable record.panel (some record.grade)).shifted 3

/-! ## RECIPE_READ (10.5, R34) -/

/-- The recipe record's 91 bytes for a stored recipe. -/
def recipeTable (r : Recipe) : Layout :=
  [(0, s16 r.baseTemp), (2, s16 r.spLimit), (4, s16 r.standbyTemp), (54, u8 r.kp), (55, u8 r.ki), (56, u16 r.maxDuty),
   (58, u16 r.heaterWindow), (60, u16 r.readyBand), (62, u16 r.dropBand), (64, u16 r.readyQualify),
   (66, u16 r.dropQualify), (68, s16 r.tRef), (70, u16 r.doubling), (72, u16 r.cureTarget), (74, u16 r.minClose),
   (76, u16 r.maxClose), (78, s32 r.chargeMin), (82, s32 r.chargeMax), (86, u16 r.ejectDelay), (88, u16 r.ejectWidth),
   (90, u8 r.rounding)] ++
  (List.finRange 8).map (fun z => (6 + 2 * z.val, s16 r.zoneTrim[z])) ++
  (List.finRange 8).map (fun k => (22 + 4 * k.val, u16 r.durations[k] ++ signMagnitude r.offsets[k]))

/-- RECIPE_READ: result, slot, record, the presses whose setups name the slot, and those of them in service. -/
def recipeReadTable (s : State) (n : SlotId) (r : Recipe) : Layout :=
  let naming (p : PressId) : Bool := match (s.press p).setup with | some u => decide (u.slot = n) | none => false
  [(0, [0]), (1, u8 n.val), (93, u8 (setOf ((List.finRange 4).map naming))),
   (94, u8 (setOf ((List.finRange 4).map fun p => naming p && decide ((s.press p).state ≠ .offline))))] ++
  (recipeTable r).shifted 2

/-! ## PRESS_STATUS (10.7, R26) -/

/-- The accumulator and step count that a press reports: the running values in CURING and DEMOULD_DUE, those at open while
the context holds them, none otherwise (R26, R101). -/
def reportedCure (x : Press) : Option Nat × Option Nat :=
  match x.context with
  | some c =>
    if x.state = .curing ∨ x.state = .demouldDue then (c.accumulator, c.stepCount)
    else (c.panel.accumulatorAtOpen, c.panel.stepCountAtOpen)
  | none => (none, none)

/-- The target in cu: cure_target × 8192 with a setup, 0 without (R96). -/
def reportedTarget (s : State) (p : PressId) : Nat :=
  match (s.press p).setup with
  | some u => match s.recipes[u.slot] with | some r => r.cureTarget * 8192 | none => 0
  | none => 0

/-- The verdict that the scale holds in REMOVE_WAIT for a press (R26). -/
def reportedVerdict (s : State) (p : PressId) : Option VerdictRecord :=
  match s.scale.state, s.scale.held with
  | .removeWait, some v => if v.press = some p then some v else none
  | _, _ => none

def pressStatusTable (s : State) (p : PressId) : Layout :=
  let x := s.press p
  [(0, [0]), (1, codeIn pressStates x.state),
   (2, match x.setup with
     | some u => [1, BitVec.ofNat 8 u.slot.val, u.zones] ++ codeIn gatings u.gating
     | none => [0, 0, 0, 0]),
   (6, bit x.ready),
   (7, u8 (setOf [x.openPermit, x.ejector, x.closed.level, x.contact.level, x.partClear.level, x.forced])),
   (8, u8 x.segment), (9, orZeros 4 ((reportedCure x).1.map u32)), (13, orZeros 2 ((reportedCure x).2.map u16)),
   (15, u32 (reportedTarget s p)),
   (19, given 4 (match x.context with
     | some c => c.panel.closeTime.map fun close =>
         le32 (match c.panel.openTime with | some opened => opened - close | none => s.clock - close)
     | none => none)),
   (24, match x.stroke with
     | none => [0, 0, 0, 0, 0]
     | some (.delay _) => [1, 0, 0, 0, 0]
     | some (.pulse _ start _) => 2 :: le32 start),
   (29, le32 x.captures.closedRise), (33, le32 x.captures.closedFall), (37, le32 x.captures.contactRise),
   (41, le32 x.captures.contactFall), (45, le32 x.captures.clearRise), (49, le32 x.captures.clearFall),
   (126, orZeros 9 ((reportedVerdict s p).map fun v =>
     u8 (verdicts.idxOf v.verdict + 1) ++ s32 v.mass ++ orZeros 4 (v.serial.map u32))),
   (135, u8 (setOf [x.changes.readyRose, x.changes.readyFell, x.changes.unexpectedClose, x.changes.zoneFaultChange])),
   (136, [0])] ++
  (match x.context with
    | some c => (53, [1]) :: (recordTable c.panel none).shifted 54
    | none => [(53, List.replicate 73 0)])

/-! ## ZONE_STATUS (R59) -/

/-- One zone's 23 bytes. -/
def zoneTable (x : Press) (z : ZoneId) : Layout :=
  let q := x.zones[z]
  [(0, codeIn sensorStates q.sensor),
   (1, u8 (if q.sensor = .suspect then q.badCount else 0)), (2, u8 (if q.sensor = .fault then q.goodCount else 0)),
   (3, match q.lastSample with
     | some (.temperature v) => 0 :: s16 v
     | some .openCircuit => [1, 0, 0]
     | some .range => [2, 0, 0]
     | none => [0, 0, 0]),
   (6, s16 q.lastGood), (8, u16 x.setpoints[z].toNat), (10, u16 q.pending), (12, u16 q.applied),
   (14, u32 q.integral.toNat), (18, codeIn zoneModes q.mode), (19, u16 q.manual),
   (21, bit (match x.setup with | some u => u.zones.getLsbD z.val | none => false)), (22, bit q.heater)]

def zoneStatusTable (s : State) (p : PressId) : Layout :=
  let x := s.press p
  let window := match x.setup with | some u => s.recipes[u.slot].map Recipe.heaterWindow | none => none
  [(0, [0]), (1, given 4 (if x.state = .offline then none else x.windowStart.map le32)),
   (6, given 2 (if x.state = .offline then none else window.map u16))] ++
  (List.finRange 8).flatMap fun z => (zoneTable x z).shifted (9 + 23 * z.val)

/-! ## HEAT_STATUS (R81) -/

def heatStatusTable (s : State) : Layout :=
  [(0, [0]), (1, codeIn heatStates s.heat.state), (2, u16 s.heat.remaining), (4, bit s.heat.lapse)] ++
  (List.finRange 4).flatMap fun p : PressId =>
    let x := s.press p
    let goal := match x.setup with
      | some u => match s.recipes[u.slot] with
        | some r => if x.ready = true then r.dropQualify * 4 else r.readyQualify * 4
        | none => 0
      | none => 0
    Layout.shifted [(0, bit x.ready), (1, u16 x.run), (3, u16 goal), (5, u8 x.segment), (6, bit x.frozen)] (5 + 7 * p.val)

/-! ## CURE_STATUS (R100, R101) -/

/-- The last-step record's 35 bytes; the items of a step that counted a zone have a presence byte each. -/
def stepTable (q : StepRecord) : Layout :=
  [(0, le32 q.time), (4, u16 q.number), (6, u8 q.counted),
   (7, given 1 (q.rate.map fun k => u8 k.coldest.val)), (9, given 2 (q.rate.map fun k => s16 k.teff)),
   (12, given 2 (q.rate.map fun k => s16 k.delta)), (15, given 1 (q.rate.map fun k => codeIn roundingModes k.mode)),
   (17, given 2 (q.rate.map fun k => s16 k.rawExponent)), (20, given 2 (q.rate.map fun k => s16 k.exponent)),
   (23, given 1 (q.rate.map fun k => s8 k.whole)), (25, given 1 (q.rate.map fun k => u8 k.fraction)),
   (27, given 2 (q.rate.map fun k => u16 k.mantissa)), (30, u32 q.increment), (34, codeIn decisions q.decision)]

def cureStatusTable (s : State) (p : PressId) : Layout :=
  let x := s.press p
  let recipe := match x.setup with | some u => s.recipes[u.slot] | none => none
  [(0, [0]), (1, codeIn pressStates x.state), (2, given 4 ((reportedCure x).1.map u32)),
   (7, given 2 ((reportedCure x).2.map u16)), (10, u32 (reportedTarget s p)),
   (14, given 4 ((reportedCure x).1.map fun acc => u32 (reportedTarget s p - acc))),
   (19, given 4 (match x.context with
     | some c => if x.state = .curing ∨ x.state = .demouldDue then
         c.panel.closeTime.map fun close => le32 (s.clock - close) else none
     | none => none)),
   (24, given 4 (recipe.map fun r => u32 (r.minClose * 1000))), (29, given 4 (recipe.map fun r => u32 (r.maxClose * 1000))),
   (34, codeIn roundingModes s.cell.rounding)] ++
  (match x.lastStep with
    | some q => (35, [1]) :: (stepTable q).shifted 36
    | none => [(35, List.replicate 36 0)])

/-! ## SCALE_STATUS (R113, R121) -/

/-- The verdict record's 17 bytes. -/
def verdictTable (v : VerdictRecord) : Layout :=
  [(0, u8 (verdicts.idxOf v.verdict + 1)), (1, s32 v.mass), (5, le32 v.time),
   (9, given 1 (v.press.map fun p => u8 p.val)), (11, given 4 (v.serial.map u32)), (16, bit v.tareStale)]

/-- The scale queue holds at most four presses (R116). -/
def scaleStatusTable (s : State) : Layout :=
  let c := s.scale
  [(0, [0]), (1, codeIn scaleStates c.state),
   (2, match c.lastSample with
     | some (.raw value gross net) => [1, 0] ++ s32 value ++ s32 gross ++ s32 net
     | some .overload => [1, 1] ++ List.replicate 12 0
     | none => List.replicate 14 0),
   (16, s32 c.lastRaw), (20, s32 c.tare), (24, given 4 (c.anchor.map s32)), (29, u8 c.count),
   (30, bit (decide (c.settings.qualify ≤ c.count))), (31, bit c.stale),
   (32, given 4 (if c.state = .tareFault then c.faultGross.map s32 else none)),
   (55, s32 c.settings.zero), (59, u32 c.settings.gain), (63, u16 c.settings.band), (65, u8 c.settings.qualify),
   (66, s32 c.settings.placeThreshold), (70, s32 c.settings.emptyThreshold), (74, s32 c.settings.tareLimit),
   (78, codeIn roundingModes s.cell.rounding), (79, u8 c.queue.length)] ++
  (match c.state, c.held with
    | .removeWait, some v => (37, [1]) :: (verdictTable v).shifted 38
    | _, _ => [(37, List.replicate 18 0)]) ++
  (List.range 4).map fun i => (80 + i, orZeros 1 (c.queue[i]?.map fun p => u8 p.val))

/-! ## HISTORY_STATUS (R136) -/

/-- The commit wait list holds at most four presses, each with the serial of the context it holds (R129). -/
def historyStatusTable (s : State) : Layout :=
  let h := s.history
  [(0, [0]), (1, u8 h.records.length), (2, u8 (64 - h.records.length)),
   (3, given 4 (h.records.head?.map fun r => u32 r.panel.serial)),
   (8, given 4 (h.records.getLast?.map fun r => u32 r.panel.serial)),
   (13, u32 h.nextSerial), (17, bit h.exhausted), (18, u8 h.waitList.length),
   (39, bit (decide (61 ≤ h.records.length ∨ h.waitList ≠ [])))] ++
  (List.range 4).map fun i => (19 + 5 * i, orZeros 5 (h.waitList[i]?.map fun p =>
    u8 p.val ++ u32 (match (s.press p).context with | some c => c.panel.serial | none => 0)))

/-! ## ATTN_READ (R163) -/

def attnReadTable (a : Attention) : Layout :=
  let members (f : Level → Bool) : List Byte := u16 (setOf (a.levels.toList.map f))
  [(0, [0]), (1, members Level.condition), (3, members Level.request), (5, members Level.inService), (7, members Level.masked),
   (9, members Level.armed), (11, members Level.edge), (13, u16 (setOf ((List.finRange 12).map a.presentable))),
   (15, bit a.attn), (16, u8 a.lowest.val), (17, bit a.openNesting), (18, bit a.autoEnd), (19, bit a.rotateOnAuto)]

/-! ## The POLL snapshot (R154, R187) -/

/-- The active zones of a press in sensor FAULT, none for an OFFLINE press. -/
def faultSet (x : Press) : Nat :=
  setOf ((List.finRange 8).map fun z => match x.setup with
    | some u => decide (x.state ≠ .offline ∧ u.zones.getLsbD z.val = true ∧ x.zones[z].sensor = .fault)
    | none => false)

/-- The bytes 5..18 of a POLL reply that grants a level. -/
def snapshotTable (s : State) (l : LevelId) : Layout :=
  let x := s.press (Fin.ofNat 4 l.val)
  let serial := match x.context with | some c => c.panel.serial | none => 0
  let mass := match x.context with | some c => c.panel.mass | none => 0
  match l with
  | 0 => [(5, u8 (setOf ((List.finRange 4).map fun p => decide ((s.press p).state = .ejectFault))))] ++
      (List.finRange 4).map (fun p : PressId => (6 + p.val, u8 (faultSet (s.press p)))) ++ [(10, List.replicate 9 0)]
  | 1 => [(5, codeIn heatStates s.heat.state), (6, u16 s.heat.remaining), (8, bit s.heat.lapse),
      (9, List.replicate 10 0)]
  | 2 => match s.scale.state, s.scale.held with
    | .removeWait, some v =>
      [(5, u8 (3 + 8 * (verdicts.idxOf v.verdict + 1) + if v.tareStale = true then 128 else 0)),
       (6, match v.press with | some p => u8 p.val | none => [255]), (7, s32 v.mass), (11, le32 v.time),
       (15, orZeros 4 (v.serial.map u32))]
    | .tareFault, _ => [(5, [4, 255]), (7, orZeros 4 (s.scale.faultGross.map s32)), (11, List.replicate 8 0)]
    | state, _ => [(5, codeIn scaleStates state ++ [255]), (7, List.replicate 12 0)]
  | 3 => [(5, u8 s.history.records.length), (6, u8 s.history.waitList.length), (7, List.replicate 12 0)]
  | 4 | 5 | 6 | 7 => [(5, codeIn pressStates x.state), (6, u32 serial), (10, List.replicate 9 0)]
  | _ => [(5, codeIn pressStates x.state), (6, u32 serial), (10, s32 mass), (14, List.replicate 5 0)]

end Sys2Proof.Machine
end

