-- ==== Sys2Proof/Safety.lean ====
section
/-! DEFINITION. What a safe state of the PCC-48 is, in the terms the statements use: the laws of the device that hold
in every state, the frame of an event, what answering a request leaves on the link, and when a timed event is due. -/

namespace Sys2Proof.Machine

/-! ## The frame of an event -/

/-- The blocks of the part (About This Manual, section 3), the cell clock with its phases among them. -/
inductive Block where
  | clock
  | cell
  | presses
  | recipes
  | heat
  | scale
  | history
  | attention
  | link
  deriving DecidableEq, Repr

/-- A block holds in `t` what it holds in `s`. -/
def State.keeps (s t : State) : Block → Prop
  | .clock => t.clock = s.clock ∧ t.scanPhase = s.scanPhase ∧ t.loadPhase = s.loadPhase
  | .cell => t.cell = s.cell
  | .presses => t.presses = s.presses
  | .recipes => t.recipes = s.recipes
  | .heat => t.heat = s.heat
  | .scale => t.scale = s.scale
  | .history => t.history = s.history
  | .attention => t.attention = s.attention
  | .link => t.link = s.link

/-- An event changes no block but those named, and never the commands that wait. -/
def OnlyChanges (blocks : List Block) (s t : State) : Prop :=
  t.pending = s.pending ∧ ∀ b, b ∉ blocks → s.keeps t b

/-- An event changes no press but one. -/
def OnlyPress (p : PressId) (s t : State) : Prop := ∀ q, q ≠ p → t.press q = s.press q

/-- What an event hands on to the attention controller (R141, R152): each level takes the value of its condition as the
event leaves it, nothing else of a level or of the controller moves, and ATTN is asserted exactly while a level is
presentable. -/
def HandsOn (s t : State) : Prop :=
  (∀ l : LevelId, t.attention.levels[l] = s.attention.levels[l].handOn (t.condition l)) ∧
  t.attention.lowest = s.attention.lowest ∧ t.attention.openNesting = s.attention.openNesting ∧
  t.attention.autoEnd = s.attention.autoEnd ∧ t.attention.rotateOnAuto = s.attention.rotateOnAuto ∧
  (t.attention.attn = true ↔ ∃ l, t.attention.presentable l = true)

/-! ## Requests and replies -/

/-- The field that names a press, a zone, a slot or a level by its number. -/
def numberByte (n : Nat) : Byte := BitVec.ofNat 8 n

/-- What is in hand while an entry's reply is sent: the entry, the reply's frame, and the time its last stop bit leaves
TXD, as the model places it in the millisecond (R171, R173; log 9). -/
def handOf (s : State) (e : Entry) (kind : Byte) (payload : Reply) : InHand where
  entry := e
  reply := frame kind payload
  sentAt := laterBy s.clock (lineTime s.link.fast (payload.length + 5))

/-- A request taken at once is answered with a payload (R171, R173): its entry and the reply's frame are in hand, until
some time that this does not say, and the rest of the link is as it was. -/
def Answers (c : Instr) (payload : Reply) (s t : State) : Prop :=
  ∃ sent, t.link = { s.link with
    hand := some { handOf s (requestEntry c) (requestEntry c).replyKind payload with sentAt := sent } }

/-- A request taken at once is answered with a payload and changes nothing else. -/
def OnlyAnswers (c : Instr) (payload : Reply) (s t : State) : Prop :=
  OnlyChanges [.link] s t ∧ Answers c payload s t

/-- The commands of a list are executed one after another, from a state. -/
def execAll : List Instr → State → Host.Outcome State Fault Refusal
  | [], s => .next s
  | c :: rest, s =>
    match exec c s with
    | .next t => execAll rest t
    | .fault f => .fault f
    | .refused r => .refused r

/-- The bytes that make an entry of the link: a frame whose check differs (R169), a length byte of 0 or above 241 (R168),
and a good frame of any kind and payload (R169). -/
def MakesEntry (bytes : List Byte) (e : Entry) : Prop :=
  (∃ (kind : Byte) (payload : List Byte) (check : BitVec 16), payload.length ≤ 240 ∧
    check ≠ frameCheck (numberByte (payload.length + 1) :: kind :: payload) ∧
    bytes = 0xA5 :: numberByte (payload.length + 1) :: kind :: payload ++ le16 check ∧ e = .linkError .badCheck) ∨
  (∃ length : Byte, (length = 0 ∨ 241 < length.toNat) ∧ bytes = [0xA5, length] ∧ e = .linkError .frameLength) ∨
  (∃ (kind : Byte) (payload : List Byte), payload.length ≤ 240 ∧ bytes = frame kind payload ∧ e = .request kind payload)

/-- The request kinds the part defines, each with the payload length it requires (R184). -/
def kindTable : List (Nat × Nat) :=
  [(0x01, 9), (0x02, 9), (0x03, 9), (0x04, 9), (0x10, 9), (0x11, 9), (0x12, 9), (0x13, 9), (0x14, 9), (0x15, 9),
   (0x16, 9), (0x20, 92), (0x21, 9), (0x22, 9), (0x28, 9), (0x29, 9)] ++
  [(0x30, 9), (0x31, 9), (0x32, 9), (0x38, 9), (0x40, 23), (0x41, 9), (0x42, 9), (0x48, 9), (0x49, 9), (0x4A, 9),
   (0x50, 9), (0x51, 9), (0x52, 9), (0x53, 9), (0x54, 9)]

/-- The event that an accepted edge of a press input is (R2). -/
def edgeCommand (input : PressInput) (rise : Bool) (p : PressId) (captured : Clock) : Instr :=
  match input, rise with
  | .closed, true => .closedRise p captured
  | .closed, false => .closedFall p captured
  | .ejectContact, true => .ejectContactRise p captured
  | .ejectContact, false => .ejectContactFall p captured
  | .partClear, true => .partClearRise p captured
  | .partClear, false => .partClearFall p captured

/-! ## Admission, commit and the recipe ranges, as the statements put them -/

/-- The admission test of a press: the heat state is RUN, and its gating is MONITOR or it is READY (R78). -/
def Admissible (s : State) (p : PressId) : Prop :=
  s.heat.state = .run ∧ ∃ u, (s.press p).setup = some u ∧ (u.gating = .monitor ∨ (s.press p).ready = true)

/-- A press that enters HEATING goes straight on to CHARGE_WAIT and the tail of the scale queue when it is admissible, and
stays in HEATING otherwise (R6, R7, R78). `x` is the press but for its state, `queue` the scale queue without it. -/
def EntersHeating (p : PressId) (x : Press) (queue : List PressId) (s t : State) : Prop :=
  (Admissible s p → t.press p = { x with state := .chargeWait } ∧ t.scale = { s.scale with queue := queue ++ [p] }) ∧
  (¬Admissible s p → t.press p = { x with state := .heating } ∧ t.scale = { s.scale with queue := queue })

/-- A zone that counts at a press scan: in the active zone set, its mode not OFF, its sensor not in FAULT (R73, R85). -/
def Counted (x : Press) (z : ZoneId) : Prop :=
  (∃ u, x.setup = some u ∧ u.zones.getLsbD z.val = true) ∧ x.zones[z].mode ≠ .off ∧ x.zones[z].sensor ≠ .fault

/-- A zone's deviation: its temperature used minus its effective setpoint (R73). -/
def deviationOf (x : Press) (z : ZoneId) : Int := x.zones[z].lastGood - x.setpoints[z]

/-- At least one zone counts, and every counted zone lies within a band of its setpoint (R74, R75). -/
def WithinBand (x : Press) (band : Nat) : Prop :=
  (∃ z, Counted x z) ∧ ∀ z, Counted x z → (deviationOf x z).natAbs ≤ band

/-- The mantissa of a fraction f: the integer nearest to 2^(f/64) × 32768 (R91), told by powers of 64. Of two neighbouring
integers at most one is that near, since the value is irrational for f above 0. -/
def IsMantissa (f m : Nat) : Prop := (2 * m - 1) ^ 64 < 2 ^ f * 65536 ^ 64 ∧ 2 ^ f * 65536 ^ 64 < (2 * m + 1) ^ 64

/-- The increment of a whole part n and a mantissa: M × 2^n for n at least 0, else M / 2^−n rounded by the mode
(R92, R93). -/
def IsIncrement (mode : RoundingMode) (n : Int) (m inc : Nat) : Prop :=
  (0 ≤ n → inc = m * 2 ^ n.toNat) ∧ (n < 0 → (inc : Int) = roundQuotient mode m (2 ^ (-n).toNat))

/-- The stages of a cure step for the coldest counted zone (R85, R87..R91). `zones` are the counted zones of `x`, the press
after its samples. -/
def IsStepRate (cell : RoundingMode) (r : Recipe) (x : Press) (zones : List ZoneId) (q : StepRate) : Prop :=
  q.coldest ∈ zones ∧ q.teff = x.zones[q.coldest].lastGood ∧
  (∀ z ∈ zones, q.teff ≤ x.zones[z].lastGood ∧ (x.zones[z].lastGood = q.teff → q.coldest ≤ z)) ∧
  q.delta = q.teff - r.tRef ∧
  (r.rounding = 0 → q.mode = .nearestEven) ∧ (r.rounding = 1 → q.mode = .towardZero) ∧
  (r.rounding = 2 → q.mode = .down) ∧ (r.rounding = 3 → q.mode = .up) ∧ (4 ≤ r.rounding → q.mode = cell) ∧
  q.rawExponent = roundQuotient q.mode (q.delta * 64) r.doubling ∧
  q.exponent = max (-1024) (min q.rawExponent 384) ∧ 64 * q.whole + q.fraction = q.exponent ∧ q.fraction < 64 ∧
  IsMantissa q.fraction q.mantissa

/-- The ends of a recipe's profile segments, ms from close: C(k) for segment k, and 0 before the first (R70). -/
def SegmentEnds (r : Recipe) (C : Nat → Nat) : Prop := C 0 = 0 ∧ ∀ k : Fin 8, C (k.val + 1) = C k.val + r.durations[k] * 1000

/-- What an offer of a context for commit leaves (R21, R125, R128). With room, its record stands at the tail of the
history queue, the press holds no context and enters HEATING; with 64 records, the press holds the context in COMMIT_HELD
and stands at the tail of the commit wait list. `x` is the press but for its state and context. -/
def OffersCommit (p : PressId) (x : Press) (c : CycleContext) (s t : State) : Prop :=
  (s.history.records.length < 64 →
    t.history = { s.history with records := s.history.records ++ [{ panel := c.panel, grade := c.panel.flags.grade }] } ∧
    EntersHeating p { x with context := none } s.scale.queue s t) ∧
  (64 ≤ s.history.records.length →
    t.history = { s.history with waitList := s.history.waitList ++ [p] } ∧ t.scale = s.scale ∧
    t.press p = { x with state := .commitHeld, context := some c })

/-- Every structural field of a recipe record lies in its range (R28). -/
def WireInRange (w : RecipeWire) : Prop :=
  500 ≤ w.baseTemp.toInt ∧ w.baseTemp.toInt ≤ 3000 ∧
  500 ≤ w.spLimit.toInt ∧ w.spLimit.toInt ≤ 3200 ∧ w.baseTemp.toInt ≤ w.spLimit.toInt ∧
  (∀ k : Fin 8, w.durations[k].toNat ≤ 3600) ∧
  500 ≤ w.heaterWindow.toNat ∧ w.heaterWindow.toNat ≤ 10000 ∧
  5 ≤ w.readyBand.toNat ∧ w.readyBand.toNat ≤ 200 ∧
  w.readyBand.toNat ≤ w.dropBand.toNat ∧ w.dropBand.toNat ≤ 500 ∧
  1 ≤ w.readyQualify.toNat ∧ w.readyQualify.toNat ≤ 600 ∧ 1 ≤ w.dropQualify.toNat ∧ w.dropQualify.toNat ≤ 600 ∧
  500 ≤ w.tRef.toInt ∧ w.tRef.toInt ≤ 3000 ∧ 20 ≤ w.doubling.toNat ∧ w.doubling.toNat ≤ 400 ∧
  16 ≤ w.cureTarget.toNat ∧
  1 ≤ w.minClose.toNat ∧ w.minClose.toNat ≤ 3600 ∧ w.minClose.toNat ≤ w.maxClose.toNat ∧ w.maxClose.toNat ≤ 3600 ∧
  1 ≤ w.chargeMin.toInt ∧ w.chargeMin.toInt ≤ 8388607 ∧
  1 ≤ w.chargeMax.toInt ∧ w.chargeMax.toInt ≤ 8388607 ∧ w.chargeMin.toInt ≤ w.chargeMax.toInt ∧
  w.ejectDelay.toNat ≤ 5000 ∧ 50 ≤ w.ejectWidth.toNat ∧ w.ejectWidth.toNat ≤ 5000 ∧ w.rounding.toNat ≤ 4

/-- The structural checks of a recipe record in the order in which they are made: the number of the field, the element, and
the range (R28, R29). kp and ki hold every value their byte can carry. -/
def recipeRanges (w : RecipeWire) : List (Nat × Nat × Prop) :=
  [(1, 0, 500 ≤ w.baseTemp.toInt ∧ w.baseTemp.toInt ≤ 3000),
   (2, 0, 500 ≤ w.spLimit.toInt ∧ w.spLimit.toInt ≤ 3200 ∧ w.baseTemp.toInt ≤ w.spLimit.toInt),
   (5, 1, w.durations[0].toNat ≤ 3600), (5, 2, w.durations[1].toNat ≤ 3600), (5, 3, w.durations[2].toNat ≤ 3600),
   (5, 4, w.durations[3].toNat ≤ 3600), (5, 5, w.durations[4].toNat ≤ 3600), (5, 6, w.durations[5].toNat ≤ 3600),
   (5, 7, w.durations[6].toNat ≤ 3600), (5, 8, w.durations[7].toNat ≤ 3600),
   (9, 0, 500 ≤ w.heaterWindow.toNat ∧ w.heaterWindow.toNat ≤ 10000),
   (10, 0, 5 ≤ w.readyBand.toNat ∧ w.readyBand.toNat ≤ 200),
   (11, 0, w.readyBand.toNat ≤ w.dropBand.toNat ∧ w.dropBand.toNat ≤ 500),
   (12, 0, 1 ≤ w.readyQualify.toNat ∧ w.readyQualify.toNat ≤ 600),
   (13, 0, 1 ≤ w.dropQualify.toNat ∧ w.dropQualify.toNat ≤ 600),
   (14, 0, 500 ≤ w.tRef.toInt ∧ w.tRef.toInt ≤ 3000),
   (15, 0, 20 ≤ w.doubling.toNat ∧ w.doubling.toNat ≤ 400),
   (16, 0, 16 ≤ w.cureTarget.toNat),
   (17, 0, 1 ≤ w.minClose.toNat ∧ w.minClose.toNat ≤ 3600),
   (18, 0, w.minClose.toNat ≤ w.maxClose.toNat ∧ w.maxClose.toNat ≤ 3600),
   (19, 0, 1 ≤ w.chargeMin.toInt ∧ w.chargeMin.toInt ≤ 8388607),
   (20, 0, 1 ≤ w.chargeMax.toInt ∧ w.chargeMax.toInt ≤ 8388607 ∧ w.chargeMin.toInt ≤ w.chargeMax.toInt),
   (21, 0, w.ejectDelay.toNat ≤ 5000),
   (22, 0, 50 ≤ w.ejectWidth.toNat ∧ w.ejectWidth.toNat ≤ 5000),
   (23, 0, w.rounding.toNat ≤ 4)]

/-- A press in service names a slot, so that the slot is in use (R31). -/
def InUse (s : State) (n : SlotId) : Prop :=
  ∃ p u, (s.press p).setup = some u ∧ u.slot = n ∧ (s.press p).state ≠ .offline

/-! ## The change of heat state to STANDBY or OFF -/

/-- What a change of heat state to STANDBY or OFF does to the presses and the scale queue: setpoints recomputed for the new
state, readiness reset, the presses in CHARGE_WAIT back in HEATING and the queue empty, the marked cycles flagged, and in OFF
every zone held off. `mark` is the flag the change adds, `lapse` the lapse flag it leaves (R47, R65, R66, R67). -/
def HeatChangesTo (new : HeatState) (mark : RecordFlags → RecordFlags) (lapse : Bool) (s t : State) : Prop :=
  t.heat = { s.heat with state := new, remaining := 0, lapse := lapse } ∧ t.scale = { s.scale with queue := [] } ∧
  ∀ p x, s.press p = x →
    t.press p = { x with
      state := (if x.state = .chargeWait then .heating else x.state)
      ready := false
      run := 0
      context :=
        (if x.state = .chargeReady ∨ x.state = .curing ∨ x.state = .demouldDue
        then x.context.map fun c => { c with panel := { c.panel with flags := mark c.panel.flags } }
        else x.context)
      setpoints := Vector.ofFn fun z =>
        match s.recipeOf p with | some r => effectiveSetpoint r new x.segment z | none => 0
      zones :=
        (if new = .off
        then Vector.ofFn fun z => { x.zones[z] with pending := 0, applied := 0, heater := false, integral := 0 }
        else x.zones) }

/-! ## The laws of the device -/

/-- The stroke of a press is in its pulse phase (1.6). -/
def Press.inPulse (x : Press) : Bool :=
  match x.stroke with
  | some (.pulse _ _ _) => true
  | some (.delay _) => false
  | none => false

/-- The output pins of every press, and the forced ejector level, are as R3 gives. -/
def PinLaw (s : State) : Prop := ∀ p,
  ((s.press p).openPermit = true ↔ (s.press p).state = .demouldDue) ∧
  ((s.press p).ejector = true ↔
    ((s.press p).state = .ejecting ∧ (s.press p).inPulse = true) ∨
    (((s.press p).state = .offline ∨ (s.press p).state = .heating) ∧ (s.press p).forced = true)) ∧
  ((s.press p).forced = true → (s.press p).state = .offline ∨ (s.press p).state = .heating)

/-- The attention controller holds each condition as its source block gives it (R141), request and armed follow it as
the trigger mode gives (R145, R146), and ATTN is asserted exactly while a level is presentable (R152). -/
def AttentionLaw (s : State) : Prop :=
  (∀ l : LevelId, s.attention.levels[l].condition = s.condition l) ∧
  (∀ l : LevelId, s.attention.levels[l].edge = false →
    s.attention.levels[l].request = s.attention.levels[l].condition ∧ s.attention.levels[l].armed = true) ∧
  (∀ l : LevelId, s.attention.levels[l].edge = true →
    s.attention.levels[l].armed = !s.attention.levels[l].condition) ∧
  (s.attention.attn = true ↔ ∃ l, s.attention.presentable l = true)

/-- A press has its setup, its window sequence and its stroke exactly as its state asks (R36, R55, 1.6). -/
def SetupLaw (s : State) : Prop := ∀ p,
  ((s.press p).state ≠ .offline → (s.press p).setup.isSome) ∧
  (∀ u, (s.press p).setup = some u → s.recipes[u.slot].isSome ∧ u.zones ≠ 0) ∧
  ((s.press p).windowStart.isSome ↔ (s.press p).state ≠ .offline) ∧
  ((s.press p).stroke.isSome ↔ (s.press p).state = .ejecting)

/-- The fields of a cycle context that are present in a press state (R10, R11, R14, R21, R126). -/
def CycleContext.fits (c : CycleContext) : PressState → Prop
  | .offline | .heating | .chargeWait => False
  | .chargeReady => c.panel.closeTime = none ∧ c.panel.openTime = none ∧ c.accumulator = none
  | .curing | .demouldDue =>
    c.panel.closeTime.isSome ∧ c.panel.openTime = none ∧ c.accumulator.isSome ∧ c.stepCount.isSome
  | .ejecting | .ejectFault | .unloadWait =>
    c.panel.closeTime.isSome ∧ c.panel.openTime.isSome ∧ c.panel.accumulatorAtOpen.isSome ∧
      c.panel.stepCountAtOpen.isSome ∧ c.accumulator.isSome
  | .commitHeld => c.panel.commitTime.isSome ∧ (c.panel.closeTime.isSome ↔ c.panel.openTime.isSome)

/-- A press holds a cycle context exactly in CHARGE_READY..COMMIT_HELD (R24), with the fields its state asks. -/
def ContextLaw (s : State) : Prop := ∀ p,
  ((s.press p).context.isSome ↔ (s.press p).state.holdsContext = true) ∧
  ∀ c, (s.press p).context = some c → c.fits (s.press p).state

/-- The scale queue holds exactly the presses in CHARGE_WAIT, the commit wait list exactly those in COMMIT_HELD, neither
holds a press twice, the history queue holds at most 64 records, and 64 while a press waits (R116, R128, R129). A press is in
CHARGE_WAIT in the heat state RUN alone (R66). -/
def QueueLaw (s : State) : Prop :=
  (∀ p, p ∈ s.scale.queue ↔ (s.press p).state = .chargeWait) ∧ s.scale.queue.Nodup ∧
  (∀ p, p ∈ s.history.waitList ↔ (s.press p).state = .commitHeld) ∧ s.history.waitList.Nodup ∧
  s.history.records.length ≤ 64 ∧ (s.history.waitList ≠ [] → s.history.records.length = 64) ∧
  (∀ p, (s.press p).state = .chargeWait → s.heat.state = .run)

/-- What holds of the presses, the queues and the contexts together. -/
def CycleLaw (s : State) : Prop := SetupLaw s ∧ ContextLaw s ∧ QueueLaw s

/-- The serials of the open contexts, in ascending press number. -/
def openSerials (s : State) : List Nat :=
  allPresses.filterMap fun p => (s.press p).context.map fun c => c.panel.serial

/-- The serials of the records in the history queue and of the open contexts. -/
def liveSerials (s : State) : List Nat := s.history.records.map PartRecord.serial ++ openSerials s

/-- No serial stands in two places, each was assigned, and none lies at or above the next serial but the last one of
all, once it is exhausted (R128, R134). -/
def SerialLaw (s : State) : Prop :=
  (liveSerials s).Nodup ∧
  (∀ n ∈ liveSerials s, 1 ≤ n ∧ (n < s.history.nextSerial ∨ (n = s.history.nextSerial ∧ s.history.exhausted = true))) ∧
  1 ≤ s.history.nextSerial ∧ s.history.nextSerial ≤ 4294967295 ∧
  (s.history.exhausted = true → s.history.nextSerial = 4294967295)

/-- A recipe's values lie in the ranges of R28 that the heat drive and the setpoints rest on. -/
def Recipe.inRanges (r : Recipe) : Prop :=
  500 ≤ r.baseTemp ∧ r.baseTemp ≤ 3000 ∧ r.baseTemp ≤ r.spLimit ∧ r.spLimit ≤ 3200 ∧
  0 ≤ r.standbyTemp ∧ r.standbyTemp ≤ r.baseTemp ∧ r.maxDuty ≤ 1000 ∧
  500 ≤ r.heaterWindow ∧ r.heaterWindow ≤ 10000 ∧ 20 ≤ r.doubling ∧ r.doubling ≤ 400 ∧
  r.minClose ≤ r.maxClose ∧ r.maxClose ≤ 3600 ∧ 1 ≤ r.chargeMin ∧ r.chargeMin ≤ r.chargeMax ∧
  r.readyBand ≤ r.dropBand ∧ 50 ≤ r.ejectWidth ∧ r.rounding ≤ 4

/-- Every VALID slot holds contents that passed the checks (R27), and a press in service names a VALID slot (R31). -/
def RecipeLaw (s : State) : Prop :=
  (∀ n : SlotId, ∀ r, s.recipes[n] = some r → r.inRanges) ∧
  ∀ p, ((s.press p).state ≠ .offline → (s.press p).setup.isSome) ∧
    ∀ u, (s.press p).setup = some u → s.recipes[u.slot].isSome

/-- A zone held off has no duty, no integral and its heater off; every other zone of a press in service stays within
max_duty; and a heater is on under an applied duty above 0 alone (R47, R54, R58). -/
def DutyLaw (s : State) : Prop := ∀ (p : PressId) (z : ZoneId),
  ((s.press p).heldOff s.heat.state z = true →
    (s.press p).zones[z].pending = 0 ∧ (s.press p).zones[z].applied = 0 ∧ (s.press p).zones[z].heater = false ∧
      (s.press p).zones[z].integral = 0) ∧
  (∀ r, s.recipeOf p = some r →
    (s.press p).zones[z].pending ≤ r.maxDuty ∧ (s.press p).zones[z].applied ≤ r.maxDuty ∧
      ((s.press p).zones[z].mode = .manual → (s.press p).zones[z].manual ≤ r.maxDuty)) ∧
  (s.press p).zones[z].manual ≤ 1000 ∧
  ((s.press p).zones[z].heater = true → 0 < (s.press p).zones[z].applied)

/-- The recipes with the duties they bound. -/
def PlatenLaw (s : State) : Prop := RecipeLaw s ∧ DutyLaw s

/-- Every setpoint is the one the recipe, the heat state and the current segment give, and 0 without a setup (R68, R69). -/
def SetpointLaw (s : State) : Prop := ∀ (p : PressId) (z : ZoneId),
  (s.press p).setpoints[z] =
    match s.recipeOf p with
    | some r => effectiveSetpoint r s.heat.state (s.press p).segment z
    | none => 0

/-- The remaining count is above 0 exactly while the heat state is RUN, and never above 6000 (R62). -/
def PermitLaw (s : State) : Prop := (0 < s.heat.remaining ↔ s.heat.state = .run) ∧ s.heat.remaining ≤ 6000

/-- The scale holds a verdict exactly in REMOVE_WAIT and a fault gross exactly in TARE_FAULT, and its run has an anchor
exactly while its count, at most 255, is above 0 (R105, R108, R113). -/
def ScaleLaw (s : State) : Prop :=
  (s.scale.held.isSome ↔ s.scale.state = .removeWait) ∧ (s.scale.faultGross.isSome ↔ s.scale.state = .tareFault) ∧
  (s.scale.anchor.isSome ↔ 0 < s.scale.count) ∧ s.scale.count ≤ 255

/-- The pending slot is full only while an entry is in hand, the discarded count holds at 65535 (R171), and the gap timer
runs exactly outside HUNT (R167, R170). -/
def LinkLaw (s : State) : Prop :=
  (s.link.slot.isSome → s.link.hand.isSome) ∧ s.link.discarded ≤ 65535 ∧
  (s.link.receiver.gapFrom.isSome ↔ s.link.receiver.state ≠ .hunt)

/-- A law that every step keeps: from every state that meets it, a step's next state meets it. -/
def KeptByEveryStep (law : State → Prop) : Prop := ∀ s t, law s → step s = .next t → law t

/-! ## When a timed event is due -/

/-- The times at which the manual has the plant's and the part's own timed events come (R16, R18, R41, R55, R57, R64,
R103, R170, R171). The meaning of a command does not wait for its time (log 3); the commands of the cell computer and the
edges of the plant may come at any time. -/
def Timely (c : Instr) (s : State) : Prop :=
  match c with
  | .gapTimerExpiry => ∃ start, s.link.receiver.gapFrom = some start ∧ laterBy start 10 = s.clock
  | .replyEnd => ∃ h, s.link.hand = some h ∧ (s.clock - h.sentAt).toNat < 2147483648
  | .delayEnd p => (s.press p).stroke = some (.delay s.clock)
  | .pulseEnd p => ∃ start contact, (s.press p).stroke = some (.pulse s.clock start contact)
  | .zoneSample p z _ => s.scanPhase.val = 60 * p.val + 7 * z.val + 11
  | .windowStart p =>
    ∃ start r, (s.press p).windowStart = some start ∧ s.recipeOf p = some r ∧ laterBy start r.heaterWindow = s.clock
  | .onTimeEnd p z =>
    ∃ start r, (s.press p).windowStart = some start ∧ s.recipeOf p = some r ∧ (s.press p).zones[z].heater = true ∧
      (s.press p).zones[z].applied * r.heaterWindow / 1000 < r.heaterWindow ∧
      laterBy start ((s.press p).zones[z].applied * r.heaterWindow / 1000) = s.clock
  | .loadCellSample _ => s.loadPhase = 20
  | .permitLapse => s.heat.state = .run ∧ s.heat.nextStep = s.clock ∧ s.heat.remaining ≤ 1
  | .permitCountdownStep => s.heat.state = .run ∧ s.heat.nextStep = s.clock
  | _ => True

/-- The cell clock and the phases of the converter scan and the load-cell samples a millisecond later (7.3, R41, R103). The
load-cell phase counts from a sample time, or from power-on before the first, to the next one at 20 ms. -/
def State.millisecondLater (v : State) : State :=
  { v with
      clock := v.clock + 1, scanPhase := v.scanPhase + 1, loadPhase := if v.loadPhase = 20 then 1 else v.loadPhase + 1 }

/-- The timed events that the part takes of itself, in the order in which it takes those due in one millisecond (log 4); a
reply end comes before them. The countdown step that reaches 0 is the lapse (log 8). -/
def timedEvents : List Instr :=
  .gapTimerExpiry :: (allPresses.flatMap fun p => [.delayEnd p, .pulseEnd p]) ++ allPresses.map .windowStart ++
  (allPresses.flatMap fun p => allZones.map (.onTimeEnd p)) ++ [.permitCountdownStep]

end Sys2Proof.Machine
end

