-- ==== Sys2Proof/WellFormed.lean ====
section
/-! DEFINITION. Which commands the manual's own ranges admit. Every operand but one is limited by its type:
the value of a temperature sample lies in the sensor range (R42). -/

namespace Sys2Proof

/-- A temperature sample's value lies in −500..5000 t°C (R42); the other classes carry no value. -/
def ZoneSample.wellFormed : ZoneSample → Bool
  | .temperature v => decide (-500 ≤ v) && decide (v ≤ 5000)
  | .openCircuit => true
  | .range => true

/-- The commands whose operands lie in the ranges the manual gives the events (R42). The fields of a request may
hold any value its width carries: what is out of range is refused by its owner (R175). -/
def Instr.wellFormed : Instr → Bool
  | .zoneSample _ _ sample => sample.wellFormed
  | .powerOn _ | .byteReceived _ | .characterDropped | .gapTimerExpiry | .replyEnd
  | .ident | .cellSet _ _ _ | .cellRead | .restart
  | .pressSetup _ _ _ _ | .pressEnable _ | .pressDisable _ | .pressAbort _ | .ejectRetry _ | .ejectForce _ _
  | .pressStatus _ | .recipeWrite _ _ | .recipeRead _ | .recipeClear _ | .zoneMode _ _ _ _ | .zoneStatus _
  | .heatPermit _ | .heatOff | .heatStatus | .cureStatus _ | .scaleSet _ _ _ _ _ _ _ | .scaleZero | .scaleStatus
  | .historyStatus | .historyRead _ | .historyAck _ | .poll | .endService _ _ _ | .setLowest _
  | .attnSetup _ _ _ _ _ | .attnRead
  | .closedRise _ _ | .closedFall _ _ | .ejectContactRise _ _ | .ejectContactFall _ _ | .partClearRise _ _
  | .partClearFall _ _ | .delayEnd _ | .pulseEnd _ | .windowStart _ | .onTimeEnd _ _ | .loadCellSample _
  | .permitLapse | .pressInputSample _ _ _ | .permitCountdownStep => true

end Sys2Proof
end

