-- ==== Sys2Proof/Certificates/Slice0/Obligations.lean ====
section
/-! DEFINITION. The statements for the provers, block by block in the order of the manual. Each docstring names the rules
of spec/ that the statement formalises; where a clause rests on a choice of the model, it names the log entry.
A request is stated with nothing in hand on the link, so that it is taken at once (R171); two statements say what
becomes of it otherwise. -/

open Sys2Proof Sys2Proof.Machine

/-! ## Steps, power-on and the queue of commands -/

/-- The queue of commands is first in, first out: a step takes the command at its front and acts as that command does on
the state with the queue's rest. -/
def Obligations.StepRunsTheFrontCommand : Prop :=
  ∀ (c : Instr) (rest : List Instr) (s : State),
    s.pending = c :: rest → step s = exec c { s with pending := rest }

/-- The model's choice (log 2): with no command waiting a step is one millisecond of the part's own time, and leaves no
command waiting. The cell clock and the phase of the converter scan advance by one, and the load-cell phase to the next
sample time, at 20 ms (7.3, R41, R103). The part takes a reply end that is due (log 9), and then, from the state `u` this
leaves, exactly the timed events that are due in it: gap timer, stroke phases, windows, on-times and the countdown step
(R16, R18, R55, R57, R64, R170, R171), in an order that is the model's (log 4); the lapse is the step that reaches 0
(log 8). -/
def Obligations.IdleStepPassesAMillisecond : Prop :=
  ∀ s : State, s.pending = [] →
    (∃ t, step s = .next t ∧ t.pending = [] ∧ t.clock = s.clock + 1 ∧ t.scanPhase = s.scanPhase + 1 ∧
      t.loadPhase = (if s.loadPhase = 20 then 1 else s.loadPhase + 1)) ∧
    (∀ u : State, (Timely .replyEnd s → exec .replyEnd s = .next u) → (¬Timely .replyEnd s → u = s) → PlatenLaw u →
      ∃ events v, events.Sublist timedEvents ∧ (∀ c ∈ timedEvents, c ∈ events ↔ Timely c u) ∧
        execAll events u = .next v ∧ step s = .next v.millisecondLater)

/-- Every command completes: it answers a next state, since the manual gives the part no error stop (the model's choice,
log 28), and leaves the commands that wait as they were, POWER_ON among them (the model's choice, log 20). Only power-on
moves the cell clock, the phases of the samples (R41, R103) and the line rate (R166); RESTART does not (7.3, R181). -/
def Obligations.EveryCommandCompletes : Prop :=
  ∀ (c : Instr) (s : State),
    ∃ t, exec c s = .next t ∧ t.pending = s.pending ∧
      ((∀ strap, c ≠ .powerOn strap) →
        t.clock = s.clock ∧ t.scanPhase = s.scanPhase ∧ t.loadPhase = s.loadPhase ∧ t.link.fast = s.link.fast)

/-- POWER_ON gives every block its power-on values: the presses (R4, R60, R82), the recipe table (R27), the heat permit
unit (R62), the cure units and the cell settings (R102, R179), the scale (R123), the history (R139), the attention
controller (R164) and the link with its rate from the strap (R166, R182). The accepted level of an input before its first
sample is not claimed. -/
def Obligations.PowerOnValues : Prop :=
  ∀ (strap : Bool) (s : State),
    ∃ t, exec (.powerOn strap) s = .next t ∧
      t.clock = 0 ∧ t.scanPhase = 0 ∧ t.loadPhase = 0 ∧ t.cell = { rounding := .nearestEven, filterTime := 20 } ∧
      (∀ p, (t.press p).state = .offline ∧ (t.press p).setup = none ∧ (t.press p).context = none ∧
        (t.press p).forced = false ∧ (t.press p).openPermit = false ∧ (t.press p).ejector = false ∧
        (t.press p).captures = ⟨0, 0, 0, 0, 0, 0⟩ ∧ (t.press p).changes = ⟨false, false, false, false⟩ ∧
        (t.press p).stroke = none ∧ (t.press p).windowStart = none ∧ (t.press p).lastStep = none ∧
        (∀ i, ((t.press p).filter i).sampled = false ∧ ((t.press p).filter i).candidate = none)) ∧
      (∀ p, (t.press p).segment = 0 ∧ (t.press p).frozen = false ∧ (t.press p).ready = false ∧ (t.press p).run = 0) ∧
      (∀ (p : PressId) (z : ZoneId), (t.press p).setpoints[z] = 0 ∧ (t.press p).heldOff t.heat.state z = true ∧
        (t.press p).zones[z] =
          { sensor := .good, badCount := 0, goodCount := 0, lastSample := none, lastGood := 0, integral := 0,
            pending := 0, applied := 0, mode := .auto, manual := 0, heater := false }) ∧
      (∀ n : SlotId, t.recipes[n] = none) ∧
      t.heat.state = .off ∧ t.heat.remaining = 0 ∧ t.heat.lapse = false ∧
      t.scale =
        { settings := { zero := 0, gain := 65536, band := 5, qualify := 10, placeThreshold := 200, emptyThreshold := 50,
                        tareLimit := 500 },
          tare := 0, state := .emptySettle, anchor := none, count := 0, lastSample := none, lastRaw := 0,
          stale := false, held := none, faultGross := none, queue := [] } ∧
      t.history = { records := [], waitList := [], nextSerial := 1, exhausted := false } ∧
      (∀ l : LevelId, t.attention.levels[l] =
        { condition := false, edge := false, request := false, armed := true, masked := true, inService := false } ∧
        t.condition l = false) ∧
      t.attention.lowest = 11 ∧ t.attention.openNesting = false ∧ t.attention.autoEnd = false ∧
      t.attention.rotateOnAuto = false ∧ t.attention.attn = false ∧
      t.link =
        { fast := strap, receiver := { state := .hunt, length := 0, body := [], check := [], gapFrom := none },
          hand := none, slot := none, discarded := 0 }

/-- The model's reset is what POWER_ON leaves with a low strap (a choice of the model, log 5), and it meets every law of
the device: pins, attention, presses with their queues and contexts, serials, duties, setpoints, heat, scale and link. -/
def Obligations.ResetMeetsTheLaws : Prop :=
  (∀ s, exec (.powerOn false) s = .next { State.reset with pending := s.pending }) ∧
  PinLaw State.reset ∧ AttentionLaw State.reset ∧ CycleLaw State.reset ∧ SerialLaw State.reset ∧
  PlatenLaw State.reset ∧ SetpointLaw State.reset ∧ PermitLaw State.reset ∧ ScaleLaw State.reset ∧ LinkLaw State.reset

/-! ## The message link -/

/-- Every request has a kind of R184 and the payload length its kind requires, and reading that kind and payload gives
the request back with every field at every value its width carries (R183, R184). -/
def Obligations.RequestsRoundTrip : Prop :=
  ∀ c : Instr, c.isRequest = true →
    ∃ kind payload, requestBytes c = some (kind, payload) ∧ (kind.toNat, payload.length) ∈ kindTable ∧
      decodeRequest kind payload = .request c

/-- The bytes of a request's frame, delivered one after another to a receiver in HUNT, do exactly what the request's own
row does: the marker is found, length, kind and payload are stored, the check agrees, and the frame becomes the entry of
that request (R167, R168, R169, R171). That a request's row stands for its good frame is the model's reading (log 1). -/
def Obligations.FrameOfARequestIsTaken : Prop :=
  ∀ (c : Instr) (s : State) (kind : Byte) (payload : List Byte),
    requestBytes c = some (kind, payload) → s.link.receiver = Receiver.reset →
      execAll ((frame kind payload).map Instr.byteReceived) s = exec c s

/-- A frame whose check differs is answered with BAD_CHECK, and a length byte of 0 or above 241 with FRAME_LENGTH, each in
a reply of kind 0x7F; the receiver is in HUNT again, its buffer empty (log 14), and no block has changed (R168, R169, R172).
The time the reply leaves is the model's, to the millisecond (log 9). -/
def Obligations.DamagedFramesAreAnswered : Prop :=
  ∀ s : State, s.link.receiver = Receiver.reset → s.link.hand = none →
    (∀ (kind : Byte) (payload : List Byte) (check : BitVec 16), payload.length ≤ 240 →
      check ≠ frameCheck (numberByte (payload.length + 1) :: kind :: payload) →
      ∃ t, execAll ((0xA5 :: numberByte (payload.length + 1) :: kind :: payload ++ le16 check).map Instr.byteReceived) s
          = .next t ∧ OnlyChanges [.link] s t ∧
        t.link = { s.link with hand := some (handOf s (.linkError .badCheck) 0x7F [0x10]) }) ∧
    (∀ length : Byte, length = 0 ∨ 241 < length.toNat →
      ∃ t, execAll [.byteReceived 0xA5, .byteReceived length] s = .next t ∧ OnlyChanges [.link] s t ∧
        t.link = { s.link with hand := some (handOf s (.linkError .frameLength) 0x7F [0x11]) })

/-- A good frame of a kind the part does not define is answered with UNKNOWN_KIND, and one of a defined kind with another
payload length with BAD_LENGTH; the reply's kind is the request's plus 0x80, or 0xFF for 0xFF, and no block has changed
(R173, R174, R175). The time the reply leaves is the model's, to the millisecond (log 9). -/
def Obligations.UndefinedRequestsAreRefused : Prop :=
  ∀ (s : State) (kind : Byte) (payload : List Byte),
    s.link.receiver = Receiver.reset → s.link.hand = none → payload.length ≤ 240 →
    (kind.toNat, payload.length) ∉ kindTable →
      ∃ t, execAll ((frame kind payload).map Instr.byteReceived) s = .next t ∧ OnlyChanges [.link] s t ∧
        t.link = { s.link with
          hand := some (handOf s (.request kind payload) (if kind = 0xFF then 0xFF else kind + 0x80)
            [if kind.toNat ∈ kindTable.map Prod.fst then 2 else 1]) }

/-- The receiver's moves that end no frame (9.2, R166, R167, R168, R169, R170): the marker, other bytes in HUNT, a good
length byte, the bytes of the body, the first check byte, a dropped character, and the gap timer. That the timer's expiry
in HUNT, where it is stopped, changes nothing is the model's choice (log 3). -/
def Obligations.ReceiverMoves : Prop :=
  ∀ (s : State) (b : Byte),
    (s.link.receiver.state = .hunt →
      exec (.byteReceived b) s = .next
        (if b = 0xA5 then
          { s with link := { s.link with receiver :=
              { state := .length, length := 0, body := [], check := [], gapFrom := some s.clock } } }
        else s)) ∧
    (s.link.receiver.state = .length → 1 ≤ b.toNat → b.toNat ≤ 241 →
      exec (.byteReceived b) s = .next
        { s with link := { s.link with receiver :=
            { s.link.receiver with state := .body, length := b, gapFrom := some s.clock } } }) ∧
    (s.link.receiver.state = .body →
      exec (.byteReceived b) s = .next
        { s with link := { s.link with receiver :=
            { s.link.receiver with
                state := if s.link.receiver.length.toNat ≤ s.link.receiver.body.length + 1 then .check else .body
                body := s.link.receiver.body ++ [b]
                gapFrom := some s.clock } } }) ∧
    (s.link.receiver.state = .check → s.link.receiver.check = [] →
      exec (.byteReceived b) s = .next
        { s with link := { s.link with receiver :=
            { s.link.receiver with check := [b], gapFrom := some s.clock } } }) ∧
    exec .characterDropped s = .next s ∧
    (s.link.receiver.state = .hunt → exec .gapTimerExpiry s = .next s) ∧
    (s.link.receiver.state ≠ .hunt →
      exec .gapTimerExpiry s = .next
        { s with link := { s.link with receiver :=
            { state := .hunt, length := 0, body := [], check := [], gapFrom := none } } })

/-- One entry is in hand at a time. A request's row, or the bytes of a damaged frame or of any good frame, that find an
entry in hand form an entry that waits in the empty pending slot; with the slot full it is discarded and counted, the count
holding at 65535, and is not answered. The end of a reply empties the hand; with an entry waiting it takes that entry at
once: a waiting request does exactly what it does when it arrives with nothing in hand, a waiting link error is answered
with its code in a reply of kind 0x7F, and a waiting request of an undefined kind or length is refused, and neither changes
a block (R171, R172, R173, R175). The time the reply leaves is the model's, to the millisecond (log 9), and that a reply end
with nothing in hand changes nothing is the model's choice (log 3). -/
def Obligations.EntriesAreTakenInTurn : Prop :=
  ∀ s : State,
    (∀ c : Instr, c.isRequest = true → s.link.hand ≠ none → s.link.slot = none →
      exec c s = .next { s with link := { s.link with slot := some (requestEntry c) } }) ∧
    (∀ c : Instr, c.isRequest = true → s.link.hand ≠ none → s.link.slot ≠ none →
      exec c s = .next { s with link := { s.link with discarded := min 65535 (s.link.discarded + 1) } }) ∧
    (∀ (bytes : List Byte) (e : Entry), MakesEntry bytes e → s.link.receiver = Receiver.reset → s.link.hand ≠ none →
      (s.link.slot = none →
        execAll (bytes.map Instr.byteReceived) s = .next { s with link := { s.link with slot := some e } }) ∧
      (s.link.slot ≠ none →
        execAll (bytes.map Instr.byteReceived) s =
          .next { s with link := { s.link with discarded := min 65535 (s.link.discarded + 1) } })) ∧
    (s.link.hand ≠ none → s.link.slot = none →
      exec .replyEnd s = .next { s with link := { s.link with hand := none } }) ∧
    (∀ c : Instr, c.isRequest = true → s.link.hand ≠ none → s.link.slot = some (requestEntry c) →
      exec .replyEnd s = exec c { s with link := { s.link with hand := none, slot := none } }) ∧
    (∀ err : LinkError, s.link.hand ≠ none → s.link.slot = some (.linkError err) →
      exec .replyEnd s = .next { s with link := { s.link with
        slot := none
        hand := some (handOf s (.linkError err) 0x7F [if err = .badCheck then 0x10 else 0x11]) } }) ∧
    (∀ (kind : Byte) (payload : List Byte), (kind.toNat, payload.length) ∉ kindTable → s.link.hand ≠ none →
      s.link.slot = some (.request kind payload) →
      exec .replyEnd s = .next { s with link := { s.link with
        slot := none
        hand := some (handOf s (.request kind payload) (if kind = 0xFF then 0xFF else kind + 0x80)
          [if kind.toNat ∈ kindTable.map Prod.fst then 2 else 1]) } }) ∧
    (s.link.hand = none → exec .replyEnd s = .next s)

/-- IDENT and CELL_READ report the part and its settings, and change nothing (R177, R180). -/
def Obligations.IdentAndCellReadReport : Prop :=
  ∀ s : State, s.link.hand = none →
    (∃ t, exec .ident s = .next t ∧
      OnlyAnswers .ident
        ([0, 0x4E, 48, 4, 8, 8, 64, 12, if s.link.fast then 1 else 0] ++ le32 s.clock ++
          le16 (BitVec.ofNat 16 s.link.discarded)) s t) ∧
    (∃ t, exec .cellRead s = .next t ∧
      OnlyAnswers .cellRead
        ([0, numberByte s.cell.rounding.code, numberByte s.cell.filterTime] ++
          le32 (BitVec.ofNat 32 s.history.nextSerial) ++
          [if s.history.exhausted then 1 else 0, if s.link.fast then 1 else 0]) s t)

/-- CELL_SET applies all its fields at once, each keep value leaving its setting; its first failing field refuses the whole
request with RANGE (R135, R178, R179). -/
def Obligations.CellSetAppliesOrRefuses : Prop :=
  ∀ (s : State) (rounding filterTime : Byte) (serial : BitVec 32), s.link.hand = none →
    ((rounding.toNat ≤ 3 ∨ rounding = 255) → filterTime.toNat ≤ 100 →
      (serial = 0 ∨ s.history.nextSerial ≤ serial.toNat) →
      ∃ t, exec (.cellSet rounding filterTime serial) s = .next t ∧
        OnlyChanges [.cell, .history, .link] s t ∧
        (rounding = 255 → t.cell.rounding = s.cell.rounding) ∧
        (rounding.toNat ≤ 3 → t.cell.rounding.code = rounding.toNat) ∧
        t.cell.filterTime = (if filterTime = 0 then s.cell.filterTime else filterTime.toNat) ∧
        t.history = { s.history with
          nextSerial := if serial = 0 then s.history.nextSerial else serial.toNat } ∧
        Answers (.cellSet rounding filterTime serial)
          ([0, numberByte t.cell.rounding.code, numberByte t.cell.filterTime] ++
            le32 (BitVec.ofNat 32 t.history.nextSerial) ++ [if s.history.exhausted then 1 else 0]) s t) ∧
    (∃ t, exec (.cellSet rounding filterTime serial) s = .next t ∧
      (3 < rounding.toNat → rounding ≠ 255 →
        OnlyAnswers (.cellSet rounding filterTime serial) [3, 1] s t) ∧
      ((rounding.toNat ≤ 3 ∨ rounding = 255) → 100 < filterTime.toNat →
        OnlyAnswers (.cellSet rounding filterTime serial) [3, 2] s t) ∧
      ((rounding.toNat ≤ 3 ∨ rounding = 255) → filterTime.toNat ≤ 100 → serial ≠ 0 →
        serial.toNat < s.history.nextSerial →
        OnlyAnswers (.cellSet rounding filterTime serial) [3, 3] s t))

/-- RESTART is refused with STATE while a press is in CHARGE_READY..COMMIT_HELD; otherwise every block takes its RESTART
values: presses OFFLINE with setup, captures and filters kept, zones at power-on values, setpoints for OFF, heat off, the
scale in EMPTY_SETTLE with settings and tare kept, the history kept, and the attention controller reset with its LEVEL
requests formed again from the conditions (R5, R61, R62, R82, R102, R124, R140, R165, R181). -/
def Obligations.RestartQuietensTheCell : Prop :=
  ∀ s : State, s.link.hand = none →
    ((∀ p, (s.press p).state = .offline ∨ (s.press p).state = .heating ∨ (s.press p).state = .chargeWait) →
      ∃ t, exec .restart s = .next t ∧
        OnlyChanges [.presses, .heat, .scale, .attention, .link] s t ∧ Answers .restart [0] s t ∧
        (∀ p, t.press p = { s.press p with
            state := .offline, forced := false, openPermit := false, ejector := false, stroke := none,
            changes := ⟨false, false, false, false⟩, windowStart := none, zones := Vector.replicate 8 Zone.reset,
            segment := 0, frozen := false, ready := false, run := 0, lastStep := none,
            setpoints := Vector.ofFn fun z =>
              match s.recipeOf p with | some r => effectiveSetpoint r .off 0 z | none => 0 }) ∧
        t.heat.state = .off ∧ t.heat.remaining = 0 ∧ t.heat.lapse = false ∧
        t.scale = { s.scale with
          state := .emptySettle, stale := false, held := none, faultGross := none, queue := [], anchor := none,
          count := 0 } ∧
        (∀ l : LevelId, t.attention.levels[l] =
          { condition := t.condition l, edge := false, request := t.condition l, armed := true, masked := true,
            inService := false }) ∧
        t.attention.lowest = 11 ∧ t.attention.openNesting = false ∧ t.attention.autoEnd = false ∧
        t.attention.rotateOnAuto = false ∧ t.attention.attn = false) ∧
    ((∃ p, (s.press p).state.holdsContext = true) →
      ∃ t, exec .restart s = .next t ∧ OnlyAnswers .restart [4] s t)

/-! ## The press sequencer -/

/-- PRESS_ENABLE of an OFFLINE press with a setup: the press enters HEATING, its first window starts with the pending
duties, and admission is evaluated at once; the reply carries the state that results (R6, R7, R55, R56, R78). -/
def Obligations.PressEnableStartsService : Prop :=
  ∀ (s : State) (p : PressId) (x y : Press) (u : Setup) (r : Recipe), PinLaw s → s.link.hand = none →
    s.press p = x → x.state = .offline → x.setup = some u → s.recipes[u.slot] = some r →
    y = { x with
      windowStart := some s.clock
      zones := Vector.ofFn fun z => { x.zones[z] with
        applied := x.zones[z].pending, heater := decide (0 < x.zones[z].pending * r.heaterWindow / 1000) } } →
      ∃ t, exec (.pressEnable (numberByte p)) s = .next t ∧
        OnlyChanges [.presses, .scale, .attention, .link] s t ∧ OnlyPress p s t ∧ HandsOn s t ∧
        (¬Admissible s p →
          t.press p = { y with state := .heating } ∧ t.scale = s.scale ∧
          Answers (.pressEnable (numberByte p)) [0, 1] s t) ∧
        (Admissible s p →
          t.press p = { y with state := .chargeWait, forced := false, ejector := false } ∧
          t.scale = { s.scale with queue := s.scale.queue ++ [p] } ∧
          Answers (.pressEnable (numberByte p)) [0, 2] s t)

/-- PRESS_DISABLE of a press in HEATING or CHARGE_WAIT: the press leaves the scale queue, enters OFFLINE and keeps its
setup and its forced level; its windows end and its zones fall to duty 0 at once (R9, R47, R55, R116). That the OK reply
has no contents is the model's reading (log 11). -/
def Obligations.PressDisableEndsService : Prop :=
  ∀ (s : State) (p : PressId) (x : Press), PinLaw s → s.link.hand = none → s.press p = x →
    (x.state = .heating ∨ x.state = .chargeWait) →
      ∃ t, exec (.pressDisable (numberByte p)) s = .next t ∧
        OnlyChanges [.presses, .scale, .attention, .link] s t ∧ OnlyPress p s t ∧ HandsOn s t ∧
        Answers (.pressDisable (numberByte p)) [0] s t ∧
        t.scale = { s.scale with queue := s.scale.queue.filter (· ≠ p) } ∧
        t.press p = { x with
          state := .offline
          windowStart := none
          zones := Vector.ofFn fun z => { x.zones[z] with
            pending := 0, applied := 0, heater := false, integral := 0 } }

/-- PRESS_ABORT by the table of R23, but for CHARGE_READY, which commits, and the states that refuse it. A press with a panel
in it takes ABORTED; CURING moves to DEMOULD_DUE with OPEN_PERMIT on, and EJECT_FAULT to UNLOAD_WAIT; DEMOULD_DUE, EJECTING
with its stroke, and UNLOAD_WAIT stay (R13, R16, R23). A press in CHARGE_WAIT leaves its place in the scale queue and returns
to HEATING; when it is still admissible it goes straight back to CHARGE_WAIT at the tail (R8, R78, R116). -/
def Obligations.AbortActsByTheTable : Prop :=
  ∀ (s : State) (p : PressId) (x : Press), PinLaw s → s.link.hand = none → s.press p = x →
    (∀ (c : CycleContext) (after : PressState), x.context = some c →
      ((x.state = .curing ∧ after = .demouldDue) ∨ (x.state = .demouldDue ∧ after = .demouldDue) ∨
        (x.state = .ejecting ∧ after = .ejecting) ∨ (x.state = .ejectFault ∧ after = .unloadWait) ∨
        (x.state = .unloadWait ∧ after = .unloadWait)) →
      ∃ t, exec (.pressAbort (numberByte p)) s = .next t ∧
        OnlyChanges [.presses, .attention, .link] s t ∧ OnlyPress p s t ∧ HandsOn s t ∧
        Answers (.pressAbort (numberByte p)) [0, numberByte after.code] s t ∧
        t.press p = { x with
          state := after
          openPermit := decide (after = .demouldDue)
          context := some { c with panel := { c.panel with flags := { c.panel.flags with aborted := true } } } }) ∧
    (x.state = .chargeWait →
      ∃ t, exec (.pressAbort (numberByte p)) s = .next t ∧
        OnlyChanges [.presses, .scale, .attention, .link] s t ∧ OnlyPress p s t ∧ HandsOn s t ∧
        EntersHeating p x (s.scale.queue.filter (· ≠ p)) s t ∧
        Answers (.pressAbort (numberByte p)) [0, numberByte (t.press p).state.code] s t)

/-- The two moments at which a press offers its context for commit: PRESS_ABORT in CHARGE_READY, which adds ABORTED and
takes the cell clock as commit time, and a PART_CLEAR rise in UNLOAD_WAIT, which takes the captured time. With room in the
history queue the record is made with its class and the press goes on from HEATING; with 64 records the press is held
(R21, R23, R125, R128, R129). The class follows from the flag set alone: REJECT with one of UNDERCURE, ABORTED, EARLY_OPEN
and CURE_STALLED, SUSPECT with none of those and another flag, GOOD with no flag (R127). -/
def Obligations.CommitIsTakenOrHeld : Prop :=
  (∀ f : RecordFlags,
    ((f.undercure = true ∨ f.aborted = true ∨ f.earlyOpen = true ∨ f.cureStalled = true) → f.grade = .reject) ∧
    (f.undercure = false → f.aborted = false → f.earlyOpen = false → f.cureStalled = false →
      ((f.tempExcursion = true ∨ f.permitLapse = true ∨ f.heatOff = true ∨ f.rateClamped = true ∨ f.tareStale = true ∨
        f.ejectRetried = true ∨ f.sensorFault = true) → f.grade = .suspect) ∧
      (f.tempExcursion = false → f.permitLapse = false → f.heatOff = false → f.rateClamped = false →
        f.tareStale = false → f.ejectRetried = false → f.sensorFault = false → f.grade = .good))) ∧
  ∀ (s : State) (p : PressId) (x : Press) (c : CycleContext), PinLaw s → s.press p = x → x.context = some c →
    (s.link.hand = none → x.state = .chargeReady →
      ∃ t, exec (.pressAbort (numberByte p)) s = .next t ∧
        OnlyChanges [.presses, .scale, .history, .attention, .link] s t ∧ OnlyPress p s t ∧ HandsOn s t ∧
        OffersCommit p x
          { c with panel := { c.panel with
              commitTime := some s.clock, flags := { c.panel.flags with aborted := true } } } s t ∧
        Answers (.pressAbort (numberByte p)) [0, numberByte (t.press p).state.code] s t) ∧
    (∀ captured, x.state = .unloadWait →
      ∃ t, exec (.partClearRise p captured) s = .next t ∧
        OnlyChanges [.presses, .scale, .history, .attention] s t ∧ OnlyPress p s t ∧ HandsOn s t ∧
        OffersCommit p
          { x with
            partClear := { sampled := true, level := true, candidate := none }
            captures := { x.captures with clearRise := captured } }
          { c with panel := { c.panel with commitTime := some captured } } s t)

/-- EJECT_RETRY in EJECT_FAULT starts a new pulse at once and counts the retry, holding at 255; EJECT_FORCE in OFFLINE or
HEATING sets the forced level, which EJECTOR follows at once (R3, R16, R19, R20). -/
def Obligations.EjectorRequestsDriveTheEjector : Prop :=
  ∀ (s : State) (p : PressId) (x : Press), PinLaw s → s.link.hand = none → s.press p = x →
    (∀ (c : CycleContext) (r : Recipe), x.state = .ejectFault → x.context = some c → s.recipeOf p = some r →
      ∃ t, exec (.ejectRetry (numberByte p)) s = .next t ∧
        OnlyChanges [.presses, .attention, .link] s t ∧ OnlyPress p s t ∧ HandsOn s t ∧
        Answers (.ejectRetry (numberByte p)) [0, 6] s t ∧
        t.press p = { x with
          state := .ejecting
          ejector := true
          stroke := some (.pulse (laterBy s.clock r.ejectWidth) s.clock false)
          context := some { c with panel := { c.panel with
            retries := min 255 (c.panel.retries + 1), flags := { c.panel.flags with ejectRetried := true } } } }) ∧
    (∀ on : Bool, (x.state = .offline ∨ x.state = .heating) →
      ∃ t, exec (.ejectForce (numberByte p) (if on then 1 else 0)) s = .next t ∧
        OnlyChanges [.presses, .attention, .link] s t ∧ OnlyPress p s t ∧ HandsOn s t ∧
        Answers (.ejectForce (numberByte p) (if on then 1 else 0)) [0] s t ∧
        t.press p = { x with forced := on, ejector := on })

/-- PRESS_STATUS answers the 137 bytes of the table of 10.7, the cycle context in the layout of 10.6 among them, clears the
change flags it reports, and changes nothing else (R25, R26, R186). Which items of the reply carry a presence byte is read
from R188 (log 12). -/
def Obligations.PressStatusClearsTheChangeFlags : Prop :=
  ∀ (s : State) (p : PressId) (x : Press), PinLaw s → s.link.hand = none → s.press p = x →
    ∃ t payload, exec (.pressStatus (numberByte p)) s = .next t ∧
      OnlyChanges [.presses, .link] s t ∧ OnlyPress p s t ∧
      Answers (.pressStatus (numberByte p)) payload s t ∧
      payload.length = 137 ∧ (pressStatusTable s p).holds payload ∧
      t.press p = { x with changes := ⟨false, false, false, false⟩ }

/-- The refusals of the press requests, in the order in which they are tested: RANGE for a press number above 3, then
RANGE for an ejector level above 1, then STATE, then NOT_FOUND. A refused request changes nothing
(1.3, R6, R9, R19, R20, R23, R26, R53, R59, R101, R175). -/
def Obligations.PressRequestsAreRefused : Prop :=
  ∀ s : State, s.link.hand = none →
    (∀ (b : Byte) (c : Instr), 4 ≤ b.toNat →
      (c = .pressEnable b ∨ c = .pressDisable b ∨ c = .pressAbort b ∨ c = .ejectRetry b ∨ (∃ l, c = .ejectForce b l) ∨
        c = .pressStatus b ∨ (∃ n z g, c = .pressSetup b n z g) ∨ (∃ z m d, c = .zoneMode b z m d) ∨ c = .zoneStatus b ∨
        c = .cureStatus b) →
      ∃ t, exec c s = .next t ∧ OnlyAnswers c [3, 1] s t) ∧
    (∀ (p : PressId) (c : Instr),
      ((c = .pressEnable (numberByte p) ∧ (s.press p).state ≠ .offline) ∨
        (c = .pressDisable (numberByte p) ∧ (s.press p).state ≠ .heating ∧ (s.press p).state ≠ .chargeWait) ∨
        (c = .pressAbort (numberByte p) ∧
          ((s.press p).state = .offline ∨ (s.press p).state = .heating ∨ (s.press p).state = .commitHeld)) ∨
        (c = .ejectRetry (numberByte p) ∧ (s.press p).state ≠ .ejectFault) ∨
        (∃ l : Byte, c = .ejectForce (numberByte p) l ∧ l.toNat ≤ 1 ∧
          (s.press p).state ≠ .offline ∧ (s.press p).state ≠ .heating)) →
      ∃ t, exec c s = .next t ∧ OnlyAnswers c [4] s t) ∧
    (∀ (p : PressId) (l : Byte), 1 < l.toNat →
      ∃ t, exec (.ejectForce (numberByte p) l) s = .next t ∧
        OnlyAnswers (.ejectForce (numberByte p) l) [3, 2] s t) ∧
    (∀ p : PressId, (s.press p).state = .offline → (s.press p).setup = none →
      ∃ t, exec (.pressEnable (numberByte p)) s = .next t ∧ OnlyAnswers (.pressEnable (numberByte p)) [6] s t)

/-- A CLOSED rise in CHARGE_READY moves the press to CURING with the captured time as close time, the accumulator and step
count present at 0, the profile at segment 1 and the setpoints recomputed; in the seven other states the manual lists it
sets UNEXPECTED_CLOSE and changes nothing else but the capture (R2, R11, R12, R69, R71, R100). -/
def Obligations.ClosedRiseStartsTheCure : Prop :=
  ∀ (s : State) (p : PressId) (x y : Press) (captured : Clock), PinLaw s → s.press p = x →
    y = { x with
      closed := { sampled := true, level := true, candidate := none }
      captures := { x.captures with closedRise := captured } } →
    (∀ (c : CycleContext) (r : Recipe), x.state = .chargeReady → x.context = some c → s.recipeOf p = some r →
      ∃ t, exec (.closedRise p captured) s = .next t ∧
        OnlyChanges [.presses, .attention] s t ∧ OnlyPress p s t ∧ HandsOn s t ∧
        t.press p = { y with
          state := .curing
          context := some { c with
            panel := { c.panel with closeTime := some captured }, accumulator := some 0, stepCount := some 0 }
          segment := 1
          frozen := decide (profileLength r = 0)
          lastStep := none
          setpoints := Vector.ofFn fun z => effectiveSetpoint r s.heat.state 1 z }) ∧
    ((x.state = .offline ∨ x.state = .heating ∨ x.state = .chargeWait ∨ x.state = .ejecting ∨ x.state = .ejectFault ∨
        x.state = .unloadWait ∨ x.state = .commitHeld) →
      ∃ t, exec (.closedRise p captured) s = .next t ∧
        OnlyChanges [.presses, .attention] s t ∧ OnlyPress p s t ∧ HandsOn s t ∧
        t.press p = { y with changes := { x.changes with unexpectedClose := true } })

/-- A CLOSED fall in DEMOULD_DUE or CURING opens the press: the open time is the captured time, the accumulator and step
count are kept as values at open, EARLY_OPEN is added from CURING, the profile ends, OPEN_PERMIT goes off, and the stroke
starts in its delay, or with eject_delay 0 in its pulse (R3, R14, R15, R16, R69, R71). -/
def Obligations.ClosedFallOpensThePress : Prop :=
  ∀ (s : State) (p : PressId) (x : Press) (c : CycleContext) (r : Recipe) (captured : Clock), PinLaw s →
    s.press p = x → x.context = some c → s.recipeOf p = some r → (x.state = .demouldDue ∨ x.state = .curing) →
      ∃ t, exec (.closedFall p captured) s = .next t ∧
        OnlyChanges [.presses, .attention] s t ∧ OnlyPress p s t ∧ HandsOn s t ∧
        t.press p = { x with
          closed := { sampled := true, level := false, candidate := none }
          captures := { x.captures with closedFall := captured }
          state := .ejecting
          openPermit := false
          ejector := decide (r.ejectDelay = 0)
          stroke := some
            (if r.ejectDelay = 0 then .pulse (laterBy s.clock r.ejectWidth) s.clock false
             else .delay (laterBy s.clock r.ejectDelay))
          context := some { c with panel := { c.panel with
            openTime := some captured
            accumulatorAtOpen := c.accumulator
            stepCountAtOpen := c.stepCount
            flags := { c.panel.flags with earlyOpen := c.panel.flags.earlyOpen || decide (x.state = .curing) } } }
          segment := 0
          frozen := false
          setpoints := Vector.ofFn fun z => effectiveSetpoint r s.heat.state 0 z }

/-- The edges that are captured and change nothing else: a CLOSED fall outside CURING and DEMOULD_DUE, every EJECT_CONTACT
fall, every PART_CLEAR fall, a PART_CLEAR rise outside UNLOAD_WAIT, and an EJECT_CONTACT rise outside EJECTING, in the
delay, before the pulse start, or after contact was recorded (R2, R11, R15, R17, R21). That "before" is read modulo 2^32,
for spans of 2^31 ms and above, is the model's reading of 7.3 (log 10). -/
def Obligations.OtherEdgesAreOnlyCaptured : Prop :=
  ∀ (s : State) (p : PressId) (x y : Press) (edge : Instr) (captured : Clock), PinLaw s → s.press p = x →
    ((edge = .closedFall p captured ∧ x.state ≠ .curing ∧ x.state ≠ .demouldDue ∧
        y = { x with closed := { sampled := true, level := false, candidate := none }
                     captures := { x.captures with closedFall := captured } }) ∨
      (edge = .ejectContactFall p captured ∧
        y = { x with contact := { sampled := true, level := false, candidate := none }
                     captures := { x.captures with contactFall := captured } }) ∨
      (edge = .partClearFall p captured ∧
        y = { x with partClear := { sampled := true, level := false, candidate := none }
                     captures := { x.captures with clearFall := captured } }) ∨
      (edge = .partClearRise p captured ∧ x.state ≠ .unloadWait ∧
        y = { x with partClear := { sampled := true, level := true, candidate := none }
                     captures := { x.captures with clearRise := captured } }) ∨
      (edge = .ejectContactRise p captured ∧
        (x.state ≠ .ejecting ∨ (∀ ends start, x.stroke = some (.pulse ends start false) →
          2147483648 ≤ (captured - start).toNat)) ∧
        y = { x with contact := { sampled := true, level := true, candidate := none }
                     captures := { x.captures with contactRise := captured } })) →
      ∃ t, exec edge s = .next t ∧ OnlyChanges [.presses, .attention] s t ∧ OnlyPress p s t ∧ HandsOn s t ∧
        t.press p = y

/-- The first EJECT_CONTACT rise of a pulse, captured at or after the pulse start, is recorded as contact: the contact
delay is the captured time minus the pulse start, replacing an earlier one (R2, R17). That "at or after" is read modulo
2^32, for spans below 2^31 ms, is the model's reading of 7.3 (log 10). -/
def Obligations.ContactIsRecordedInThePulse : Prop :=
  ∀ (s : State) (p : PressId) (x : Press) (c : CycleContext) (ends start captured : Clock), PinLaw s →
    s.press p = x → x.context = some c → x.state = .ejecting → x.stroke = some (.pulse ends start false) →
    (captured - start).toNat < 2147483648 →
      ∃ t, exec (.ejectContactRise p captured) s = .next t ∧
        OnlyChanges [.presses, .attention] s t ∧ OnlyPress p s t ∧ HandsOn s t ∧
        t.press p = { x with
          contact := { sampled := true, level := true, candidate := none }
          captures := { x.captures with contactRise := captured }
          stroke := some (.pulse ends start true)
          context := some { c with panel := { c.panel with contactDelay := some (captured - start).toNat } } }

/-- The end of the delay turns EJECTOR on for a pulse of eject_width ms that starts now; the end of the pulse turns it off,
and the press enters UNLOAD_WAIT with contact recorded and EJECT_FAULT without. A phase that is not running does not end: DELAY_END
changes nothing but in the delay, and PULSE_END nothing but in the pulse (the model's choice, log 3). (R3, R16, R18) -/
def Obligations.StrokePhasesEnd : Prop :=
  ∀ (s : State) (p : PressId) (x : Press), PinLaw s → s.press p = x →
    (∀ (ends : Clock) (r : Recipe), x.state = .ejecting → x.stroke = some (.delay ends) → s.recipeOf p = some r →
      ∃ t, exec (.delayEnd p) s = .next t ∧
        OnlyChanges [.presses, .attention] s t ∧ OnlyPress p s t ∧ HandsOn s t ∧
        t.press p = { x with
          stroke := some (.pulse (laterBy s.clock r.ejectWidth) s.clock false), ejector := true }) ∧
    (∀ (ends start : Clock) (contact : Bool), x.state = .ejecting → x.stroke = some (.pulse ends start contact) →
      ∃ t, exec (.pulseEnd p) s = .next t ∧
        OnlyChanges [.presses, .attention] s t ∧ OnlyPress p s t ∧ HandsOn s t ∧
        t.press p = { x with
          state := if contact then .unloadWait else .ejectFault, stroke := none, ejector := false }) ∧
    (¬(x.state = .ejecting ∧ ∃ ends, x.stroke = some (.delay ends)) → exec (.delayEnd p) s = .next s) ∧
    (¬(x.state = .ejecting ∧ ∃ ends start contact, x.stroke = some (.pulse ends start contact)) →
      exec (.pulseEnd p) s = .next s)

/-- A sample of a press input, by the table of R1 under the filter time in force: the first sample after power-on becomes
the accepted level without an edge; an equal sample drops the candidate; a different one starts a candidate, leaves it
below the filter time, and at the filter time is accepted and delivered as the edge with the candidate's start as captured
time (R1, R2). -/
def Obligations.InputFilterAcceptsASteadyLevel : Prop :=
  ∀ (s : State) (p : PressId) (input : PressInput) (level : Bool) (f : InputFilter), PinLaw s →
    (s.press p).filter input = f →
    (∀ g : InputFilter,
      ((f.sampled = false ∧ g = { sampled := true, level := level, candidate := none }) ∨
        (f.sampled = true ∧ level = f.level ∧ g = { f with candidate := none }) ∨
        (f.sampled = true ∧ level ≠ f.level ∧ f.candidate = none ∧ g = { f with candidate := some s.clock }) ∨
        (f.sampled = true ∧ level ≠ f.level ∧
          (∃ start, f.candidate = some start ∧ (s.clock - start).toNat < s.cell.filterTime) ∧ g = f)) →
      ∃ t, exec (.pressInputSample p input level) s = .next t ∧ OnlyChanges [.presses] s t ∧ OnlyPress p s t ∧
        t.press p = (s.press p).setFilter input g) ∧
    (∀ start, f.sampled = true → level ≠ f.level → f.candidate = some start →
      s.cell.filterTime ≤ (s.clock - start).toNat →
      exec (.pressInputSample p input level) s = exec (edgeCommand input level p start) s)

/-! ## The recipe table and the press setup -/

/-- A RECIPE_WRITE whose structural fields lie in range, to a slot not in use, stores the whole recipe with its soft fields
clamped, reports in CLAMPED which of fields 3, 4, 5 and 8 were moved, and every OFFLINE press that names the slot adopts it:
readiness reset, manual duties re-bounded, setpoints recomputed. Every other press is as it was (R28, R30, R32, R33, R54). -/
def Obligations.RecipeWriteStoresAndIsAdopted : Prop :=
  ∀ (s : State) (n : SlotId) (w : RecipeWire) (m3 m4 m5 m8 : Bool), PinLaw s → s.link.hand = none →
    WireInRange w → ¬InUse s n →
    (m3 = true ↔ w.standbyTemp.toInt < 0 ∨ w.baseTemp.toInt < w.standbyTemp.toInt) →
    (m4 = true ↔ ∃ z : ZoneId, w.zoneTrim[z].toInt < -200 ∨ 200 < w.zoneTrim[z].toInt) →
    (m5 = true ↔ ∃ k : Fin 8, offsetValue w.offsets[k] < -500 ∨ 500 < offsetValue w.offsets[k]) →
    (m8 = true ↔ w.maxDuty.toInt < 0 ∨ 1000 < w.maxDuty.toInt) →
      ∃ t r, exec (.recipeWrite (numberByte n) w) s = .next t ∧
        OnlyChanges [.presses, .recipes, .attention, .link] s t ∧ HandsOn s t ∧
        t.recipes = s.recipes.set n (some r) ∧
        r.baseTemp = w.baseTemp.toInt ∧ r.spLimit = w.spLimit.toInt ∧
        r.standbyTemp = max 0 (min w.standbyTemp.toInt w.baseTemp.toInt) ∧
        (∀ z : ZoneId, r.zoneTrim[z] = max (-200) (min w.zoneTrim[z].toInt 200)) ∧
        (∀ k : Fin 8, r.durations[k] = w.durations[k].toNat ∧
          r.offsets[k] = max (-500) (min (offsetValue w.offsets[k]) 500)) ∧
        r.kp = w.kp.toNat ∧ r.ki = w.ki.toNat ∧ (r.maxDuty : Int) = max 0 (min w.maxDuty.toInt 1000) ∧
        r.heaterWindow = w.heaterWindow.toNat ∧ r.readyBand = w.readyBand.toNat ∧ r.dropBand = w.dropBand.toNat ∧
        r.readyQualify = w.readyQualify.toNat ∧ r.dropQualify = w.dropQualify.toNat ∧ r.tRef = w.tRef.toInt ∧
        r.doubling = w.doubling.toNat ∧ r.cureTarget = w.cureTarget.toNat ∧ r.minClose = w.minClose.toNat ∧
        r.maxClose = w.maxClose.toNat ∧ r.chargeMin = w.chargeMin.toInt ∧ r.chargeMax = w.chargeMax.toInt ∧
        r.ejectDelay = w.ejectDelay.toNat ∧ r.ejectWidth = w.ejectWidth.toNat ∧ r.rounding = w.rounding.toNat ∧
        Answers (.recipeWrite (numberByte n) w)
          [0, (if m3 then 8 else 0) + (if m4 then 16 else 0) + (if m5 then 32 else 0), if m8 then 1 else 0, 0, 0] s t ∧
        (∀ q x, s.press q = x →
          (x.state = .offline → (∃ u, x.setup = some u ∧ u.slot = n) →
            t.press q = { x with
              ready := false
              run := 0
              zones := Vector.ofFn fun z =>
                if x.zones[z].mode = .manual then { x.zones[z] with manual := min x.zones[z].manual r.maxDuty }
                else x.zones[z]
              setpoints := Vector.ofFn fun z => effectiveSetpoint r s.heat.state x.segment z }) ∧
          (¬(x.state = .offline ∧ ∃ u, x.setup = some u ∧ u.slot = n) → t.press q = x))

/-- The refusals of the recipe requests and of PRESS_SETUP, in the order in which they are tested: for RECIPE_WRITE the
slot as field 0, then the first structural field that fails with its element, then IN_USE; for RECIPE_READ and
RECIPE_CLEAR the slot, then NOT_FOUND and IN_USE; for PRESS_SETUP slot, zone set and gating, then STATE, then NOT_FOUND.
The structural checks of R28 stand in the statement's own list, in their order (R28, R29, R31, R32, R34, R35, R39, R175). -/
def Obligations.RecipeAndSetupRequestsAreRefused : Prop :=
  ∀ s : State, s.link.hand = none →
    (∀ (b : Byte) (w : RecipeWire), 8 ≤ b.toNat →
      ∃ t, exec (.recipeWrite b w) s = .next t ∧ OnlyAnswers (.recipeWrite b w) [3, 0, 0] s t) ∧
    (∀ (n : SlotId) (w : RecipeWire) (passed failed : List (Nat × Nat × Prop)) (field element : Nat) (range : Prop),
      recipeRanges w = passed ++ (field, element, range) :: failed → (∀ c ∈ passed, c.2.2) → ¬range →
      ∃ t, exec (.recipeWrite (numberByte n) w) s = .next t ∧
        OnlyAnswers (.recipeWrite (numberByte n) w) [3, numberByte field, numberByte element] s t) ∧
    (∀ w : RecipeWire, (∀ c ∈ recipeRanges w, c.2.2) ↔ WireInRange w) ∧
    (∀ (n : SlotId) (w : RecipeWire), WireInRange w → InUse s n →
      ∃ t, exec (.recipeWrite (numberByte n) w) s = .next t ∧ OnlyAnswers (.recipeWrite (numberByte n) w) [5] s t) ∧
    (∀ (b : Byte) (c : Instr), 8 ≤ b.toNat → (c = .recipeRead b ∨ c = .recipeClear b) →
      ∃ t, exec c s = .next t ∧ OnlyAnswers c [3, 1] s t) ∧
    (∀ n : SlotId, s.recipes[n] = none →
      ∃ t, exec (.recipeRead (numberByte n)) s = .next t ∧ OnlyAnswers (.recipeRead (numberByte n)) [6] s t) ∧
    (∀ n : SlotId, InUse s n →
      ∃ t, exec (.recipeClear (numberByte n)) s = .next t ∧ OnlyAnswers (.recipeClear (numberByte n)) [5] s t) ∧
    (∀ (p : PressId) (slot zones gating : Byte) (c : Instr), c = .pressSetup (numberByte p) slot zones gating →
      ∃ t, exec c s = .next t ∧
        (8 ≤ slot.toNat → OnlyAnswers c [3, 2] s t) ∧
        (slot.toNat < 8 → zones = 0 → OnlyAnswers c [3, 3] s t) ∧
        (slot.toNat < 8 → zones ≠ 0 → 1 < gating.toNat → OnlyAnswers c [3, 4] s t) ∧
        (slot.toNat < 8 → zones ≠ 0 → gating.toNat ≤ 1 → (s.press p).state ≠ .offline → OnlyAnswers c [4] s t) ∧
        (∀ n : SlotId, slot = numberByte n → zones ≠ 0 → gating.toNat ≤ 1 → (s.press p).state = .offline →
          s.recipes[n] = none → OnlyAnswers c [6] s t))

/-- RECIPE_READ of a VALID slot answers 95 bytes: the slot, the stored record in the layout of 10.5, the set of presses whose
setups name the slot, and the set of those in service. A record that needed no clamping, its offsets without a negative zero,
is stored so that it comes back as it was written (R34, R183, 10.5). -/
def Obligations.RecipeReadReturnsTheRecord : Prop :=
  (∀ (s : State) (n : SlotId) (r : Recipe), s.link.hand = none → s.recipes[n] = some r →
    ∃ t payload, exec (.recipeRead (numberByte n)) s = .next t ∧
      OnlyAnswers (.recipeRead (numberByte n)) payload s t ∧
      payload.length = 95 ∧ (recipeReadTable s n r).holds payload) ∧
  (∀ w : RecipeWire, 0 ≤ w.standbyTemp.toInt → w.standbyTemp.toInt ≤ w.baseTemp.toInt →
    (∀ z : ZoneId, -200 ≤ w.zoneTrim[z].toInt ∧ w.zoneTrim[z].toInt ≤ 200) →
    (∀ k : Fin 8, -500 ≤ offsetValue w.offsets[k] ∧ offsetValue w.offsets[k] ≤ 500 ∧ w.offsets[k] ≠ 0x8000) →
    0 ≤ w.maxDuty.toInt → w.maxDuty.toInt ≤ 1000 → (storedRecipe w).wire = w)

/-- RECIPE_CLEAR of a slot not in use: a VALID slot becomes EMPTY and each OFFLINE press that names it loses its setup, its
readiness reset and its setpoints 0; an EMPTY slot is answered OK and nothing changes (R35, R69, R76). -/
def Obligations.RecipeClearEmptiesTheSlot : Prop :=
  ∀ (s : State) (n : SlotId), PinLaw s → s.link.hand = none → ¬InUse s n →
    (s.recipes[n].isSome →
      ∃ t, exec (.recipeClear (numberByte n)) s = .next t ∧
        OnlyChanges [.presses, .recipes, .attention, .link] s t ∧ HandsOn s t ∧
        Answers (.recipeClear (numberByte n)) [0] s t ∧ t.recipes = s.recipes.set n none ∧
        (∀ q x, s.press q = x →
          ((∃ u, x.setup = some u ∧ u.slot = n) →
            t.press q = { x with setup := none, ready := false, run := 0, setpoints := Vector.replicate 8 0 }) ∧
          ((¬∃ u, x.setup = some u ∧ u.slot = n) → t.press q = x))) ∧
    (s.recipes[n] = none →
      ∃ t, exec (.recipeClear (numberByte n)) s = .next t ∧ OnlyAnswers (.recipeClear (numberByte n)) [0] s t)

/-- PRESS_SETUP of an OFFLINE press, with its fields in range and a VALID slot, gives the press that setup: readiness reset
without a change flag, manual duties re-bounded, setpoints recomputed; the press stays OFFLINE (R36, R39, R54, R69). -/
def Obligations.PressSetupIsTaken : Prop :=
  ∀ (s : State) (p : PressId) (x : Press) (n : SlotId) (zones : Byte) (monitor : Bool) (r : Recipe), PinLaw s →
    s.link.hand = none → s.press p = x → x.state = .offline → zones ≠ 0 → s.recipes[n] = some r →
      ∃ t, exec (.pressSetup (numberByte p) (numberByte n) zones (if monitor then 1 else 0)) s = .next t ∧
        OnlyChanges [.presses, .attention, .link] s t ∧ OnlyPress p s t ∧ HandsOn s t ∧
        Answers (.pressSetup (numberByte p) (numberByte n) zones (if monitor then 1 else 0)) [0] s t ∧
        t.press p = { x with
          setup := some { slot := n, zones := zones, gating := if monitor then .monitor else .autoGate }
          ready := false
          run := 0
          zones := Vector.ofFn fun z =>
            if x.zones[z].mode = .manual then { x.zones[z] with manual := min x.zones[z].manual r.maxDuty }
            else x.zones[z]
          setpoints := Vector.ofFn fun z => effectiveSetpoint r s.heat.state x.segment z }

/-! ## The zone controllers -/

/-- ZONE_MODE by the table of R53: AUTO keeps the duties; MANUAL stores the duty within the zone's bound, the recipe's
max_duty or 1000 without a setup, and makes it pending when no hold-off cause holds; OFF holds the zone off at once. The
reply carries the mode and the stored duty; a zone above 7 and a mode above 2 are refused with RANGE (R47, R53, R54). -/
def Obligations.ZoneModeActsByTheTable : Prop :=
  ∀ (s : State) (p : PressId) (x : Press) (z : ZoneId) (y : Zone) (duty : BitVec 16) (bound : Nat), PinLaw s →
    s.link.hand = none → s.press p = x → x.zones[z] = y →
    (∀ r, s.recipeOf p = some r → bound = r.maxDuty) → (s.recipeOf p = none → bound = 1000) →
    (∀ (code : Byte) (after : Zone),
      ((code = 0 ∧ after = { y with mode := .auto }) ∨
        (code = 1 ∧ (s.heat.state = .off ∨ x.state = .offline ∨ x.isActive z = false ∨ y.sensor = .fault) ∧
          after = { y with mode := .manual, manual := min duty.toNat bound, pending := 0 }) ∨
        (code = 1 ∧ s.heat.state ≠ .off ∧ x.state ≠ .offline ∧ x.isActive z = true ∧ y.sensor ≠ .fault ∧
          after = { y with mode := .manual, manual := min duty.toNat bound, pending := min duty.toNat bound }) ∨
        (code = 2 ∧
          after = { y with mode := .off, pending := 0, applied := 0, heater := false, integral := 0 })) →
      ∃ t, exec (.zoneMode (numberByte p) (numberByte z) code duty) s = .next t ∧
        OnlyChanges [.presses, .attention, .link] s t ∧ OnlyPress p s t ∧ HandsOn s t ∧
        t.press p = { x with zones := x.zones.set z after } ∧
        Answers (.zoneMode (numberByte p) (numberByte z) code duty)
          ([0, code] ++ le16 (BitVec.ofNat 16 after.manual)) s t) ∧
    (∀ b code : Byte, 8 ≤ b.toNat →
      ∃ t, exec (.zoneMode (numberByte p) b code duty) s = .next t ∧
        OnlyAnswers (.zoneMode (numberByte p) b code duty) [3, 2] s t) ∧
    (∀ code : Byte, 3 ≤ code.toNat →
      ∃ t, exec (.zoneMode (numberByte p) (numberByte z) code duty) s = .next t ∧
        OnlyAnswers (.zoneMode (numberByte p) (numberByte z) code duty) [3, 3] s t)

/-- A converter sample of a zone, within the sensor range: it becomes the zone's last sample, a good one also its last good
temperature, and the sensor state moves by the table of R44. An entry into or a return from FAULT sets ZONE_FAULT_CHANGE, and
an entry of an active zone in CHARGE_READY..DEMOULD_DUE adds SENSOR_FAULT, for every zone. Mode and manual duty, and every
other zone, are as they were (R42, R44, R46). A sample of a zone before zone 7 changes nothing else of the press; after zone
7's the press scan follows, which this statement leaves to others (R43). -/
def Obligations.ZoneSampleSupervisesTheSensor : Prop :=
  ∀ (s : State) (p : PressId) (x : Press) (z : ZoneId) (y : Zone) (sample : ZoneSample), PinLaw s → s.press p = x →
    x.zones[z] = y → sample.wellFormed = true →
      ∃ t after context, exec (.zoneSample p z sample) s = .next t ∧ OnlyPress p s t ∧ HandsOn s t ∧
        (t.press p).zones = x.zones.set z after ∧
        after.lastSample = some sample ∧ after.mode = y.mode ∧ after.manual = y.manual ∧
        (∀ v, sample = .temperature v →
          after.lastGood = v ∧
          (y.sensor = .good → after.sensor = .good ∧ after.badCount = y.badCount ∧ after.goodCount = y.goodCount) ∧
          (y.sensor = .suspect → after.sensor = .good ∧ after.badCount = 0 ∧ after.goodCount = y.goodCount) ∧
          (y.sensor = .fault → y.goodCount < 2 →
            after.sensor = .fault ∧ after.goodCount = y.goodCount + 1 ∧ after.badCount = y.badCount) ∧
          (y.sensor = .fault → 2 ≤ y.goodCount →
            after.sensor = .good ∧ after.goodCount = 0 ∧ after.badCount = y.badCount)) ∧
        ((∀ v, sample ≠ .temperature v) →
          after.lastGood = y.lastGood ∧
          (y.sensor = .good → after.sensor = .suspect ∧ after.badCount = 1 ∧ after.goodCount = y.goodCount) ∧
          (y.sensor = .suspect → y.badCount < 2 →
            after.sensor = .suspect ∧ after.badCount = y.badCount + 1 ∧ after.goodCount = y.goodCount) ∧
          (y.sensor = .suspect → 2 ≤ y.badCount →
            after.sensor = .fault ∧ after.badCount = 0 ∧ after.goodCount = 0) ∧
          (y.sensor = .fault → after.sensor = .fault ∧ after.goodCount = 0 ∧ after.badCount = y.badCount)) ∧
        ((t.press p).changes.zoneFaultChange = true ↔
          x.changes.zoneFaultChange = true ∨ ¬(after.sensor = .fault ↔ y.sensor = .fault)) ∧
        context = (if after.sensor = .fault ∧ y.sensor ≠ .fault ∧ x.isActive z = true ∧
            (x.state = .chargeReady ∨ x.state = .curing ∨ x.state = .demouldDue)
          then x.context.map fun c =>
            { c with panel := { c.panel with flags := { c.panel.flags with sensorFault := true } } }
          else x.context) ∧
        ((t.press p).context.map fun c => c.panel.flags.sensorFault) = (context.map fun c => c.panel.flags.sensorFault) ∧
        (z ≠ 7 → OnlyChanges [.presses, .attention] s t ∧
          t.press p = { x with zones := (t.press p).zones, changes := { x.changes with
            zoneFaultChange := (t.press p).changes.zoneFaultChange }, context := context }) ∧
        (z = 7 → OnlyChanges [.presses, .scale, .attention] s t)

/-- The duties of a zone at a sample, `after` being the zone it leaves: pending duty and integral are 0 while a hold-off
cause holds, and an entry into FAULT also drops the applied duty and the heater at once; otherwise a MANUAL zone asks for its
manual duty, and an AUTO zone runs the control law on the effective setpoint that stands at the sample and its last good
temperature, with the error clamped to ±2000, P rounded toward zero, I kept when the previous output was saturated in the
direction of the error, and the output clamped to 0..max_duty (R43, R47, R48, R49, R50, R51). -/
def Obligations.ZoneSampleSetsTheDuty : Prop :=
  ∀ (s : State) (p : PressId) (x : Press) (z : ZoneId) (y : Zone) (sample : ZoneSample), s.press p = x →
    x.zones[z] = y → sample.wellFormed = true →
      ∃ t after, exec (.zoneSample p z sample) s = .next t ∧ (t.press p).zones[z] = after ∧
        (after.sensor = .fault → y.sensor ≠ .fault →
          after.pending = 0 ∧ after.integral = 0 ∧ after.applied = 0 ∧ after.heater = false) ∧
        (¬(after.sensor = .fault ∧ y.sensor ≠ .fault) → after.applied = y.applied ∧ after.heater = y.heater) ∧
        ((s.heat.state = .off ∨ x.state = .offline ∨ x.isActive z = false ∨ y.mode = .off ∨ after.sensor = .fault) →
          after.pending = 0 ∧ after.integral = 0) ∧
        (s.heat.state ≠ .off → x.state ≠ .offline → x.isActive z = true → after.sensor ≠ .fault →
          (y.mode = .manual → after.pending = y.manual ∧ after.integral = y.integral) ∧
          (∀ (r : Recipe) (e : Int), y.mode = .auto → s.recipeOf p = some r →
            e = max (-2000) (min (x.setpoints[z] - after.lastGood) 2000) →
            after.integral =
              (if (y.pending = r.maxDuty ∧ 0 < e) ∨ (y.pending = 0 ∧ e < 0) then y.integral
               else max 0 (min (y.integral + e * r.ki) 256000)) ∧
            (after.pending : Int) =
              max 0 (min (Int.tdiv (e * r.kp) 16 + Int.fdiv after.integral 256) r.maxDuty)))

/-- A heater window of a press in service starts heater_window ms after the one before: each zone applies its pending duty
and its heater is on for floor(duty × window / 1000) ms, if that is above 0; at the end of that time the heater goes off,
unless it fills the window. Nothing else changes (R55, R56, R57). That a window is started from the time of the one before,
whatever the clock, is read from R55 (log 18); that ON_TIME_END of an on-time that fills the window changes nothing is read
from R57 (log 17). -/
def Obligations.HeaterWindowsSwitchTheHeaters : Prop :=
  ∀ (s : State) (p : PressId) (x : Press) (start : Clock) (r : Recipe), PinLaw s → s.press p = x →
    x.windowStart = some start → s.recipeOf p = some r →
    (∃ t, exec (.windowStart p) s = .next t ∧ OnlyChanges [.presses] s t ∧ OnlyPress p s t ∧
      t.press p = { x with
        windowStart := some (laterBy start r.heaterWindow)
        zones := Vector.ofFn fun z => { x.zones[z] with
          applied := x.zones[z].pending, heater := decide (0 < x.zones[z].pending * r.heaterWindow / 1000) } }) ∧
    (∀ z : ZoneId,
      (x.zones[z].applied * r.heaterWindow / 1000 < r.heaterWindow →
        ∃ t, exec (.onTimeEnd p z) s = .next t ∧ OnlyChanges [.presses] s t ∧ OnlyPress p s t ∧
          t.press p = { x with zones := x.zones.set z { x.zones[z] with heater := false } }) ∧
      (r.heaterWindow ≤ x.zones[z].applied * r.heaterWindow / 1000 → exec (.onTimeEnd p z) s = .next s))

/-- The effective setpoint in each heat state is the sum of the table of R68, clamped to 0..sp_limit; the profile offset is
that of the current segment, and 0 for segment 0 and for a profile of length 0; the length is the number of segments before
the first of duration 0. At the press scan that follows zone 7's sample, with C(k) the end of segment k, a profile that is
active and not frozen moves to the first timed segment that has not ended, or stays in the last, and freezes at C(L) or at
3,600,000 ms; a frozen or an inactive one stays. The segment reached becomes the greater of its value and the segment. The
press's setpoints are then those of the recipe, the heat state and the segment, or 0 without a recipe (R43, R68, R69, R70,
R71, R72). The order of a press scan's parts is read from several rules (log 13). -/
def Obligations.SetpointsFollowTheProfile : Prop :=
  (∀ (r : Recipe) (heat : HeatState) (segment : Nat) (z : ZoneId) (wanted : Int),
    ((heat = .run ∧ wanted = r.baseTemp + r.zoneTrim[z] + segmentOffset r segment) ∨
      (heat = .standby ∧ wanted = r.standbyTemp + r.zoneTrim[z]) ∨
      (heat = .off ∧ wanted = r.baseTemp + r.zoneTrim[z])) →
    effectiveSetpoint r heat segment z = max 0 (min wanted r.spLimit)) ∧
  (∀ r : Recipe,
    (profileLength r ≤ 8 ∧ (∀ k : Fin 8, k.val < profileLength r → r.durations[k] ≠ 0) ∧
      (∀ k : Fin 8, k.val = profileLength r → r.durations[k] = 0)) ∧
    segmentOffset r 0 = 0 ∧ (∀ k : Fin 8, segmentOffset r (k.val + 1) = if profileLength r = 0 then 0 else r.offsets[k])) ∧
  (∀ (s : State) (p : PressId) (x : Press) (sample : ZoneSample), s.press p = x →
    ∃ t y, exec (.zoneSample p 7 sample) s = .next t ∧ t.press p = y ∧
      (∀ z : ZoneId,
        (∀ r, s.recipeOf p = some r → y.setpoints[z] = effectiveSetpoint r s.heat.state y.segment z) ∧
        (s.recipeOf p = none → y.setpoints[z] = 0)) ∧
      ((x.state ≠ .curing ∧ x.state ≠ .demouldDue) ∨ x.frozen = true →
        y.segment = x.segment ∧ y.frozen = x.frozen) ∧
      (∀ (r : Recipe) (C : Nat → Nat) (c : CycleContext) (close : Clock) (length elapsed : Nat), s.recipeOf p = some r →
        SegmentEnds r C → (x.state = .curing ∨ x.state = .demouldDue) → x.context = some c →
        c.panel.closeTime = some close → length = profileLength r → elapsed = (s.clock - close).toNat →
        (x.frozen = false →
          (length = 0 → y.segment = 1) ∧
          (elapsed < C length →
            1 ≤ y.segment ∧ y.segment ≤ length ∧ elapsed < C y.segment ∧
              ∀ k, 1 ≤ k → k < y.segment → C k ≤ elapsed) ∧
          (C length ≤ elapsed → 1 ≤ length → y.segment = length) ∧
          (y.frozen = true ↔ C length ≤ elapsed ∨ 3600000 ≤ elapsed)) ∧
        ∃ d, y.context = some d ∧ d.panel.segmentReached = max c.panel.segmentReached y.segment))

/-- Readiness and admission at the press scan that follows zone 7's sample, in every press state, `y` being the press it
leaves: a NOT_READY press counts a run of scans in which a zone counts and every counted deviation lies in the ready band,
and becomes READY at ready_qualify × 4; a READY press counts a run of scans in which no zone counts or one lies outside the
drop band, and falls at drop_qualify × 4; any other scan sets the run to 0; a press without a recipe is NOT_READY with run 0
and no flag. A rise sets READY_ROSE, a fall READY_FELL, and a fall in CHARGE_READY, CURING or DEMOULD_DUE adds
TEMP_EXCURSION. A fall in CHARGE_WAIT under AUTO_GATE returns the press to HEATING and out of the scale queue; otherwise it
stays there. A press in HEATING joins the tail of the queue when heat is RUN and it is under MONITOR or READY after this
scan, so a rise admits it. No other state moves but CURING, by the cure unit, and what the scan does not name is as it was
(R43, R73, R74, R75, R77, R78). The order of a press scan's parts is read from several rules (log 13). -/
def Obligations.ReadinessCountsPressScans : Prop :=
  ∀ (s : State) (p : PressId) (x : Press) (sample : ZoneSample), PinLaw s → s.press p = x →
    ∃ t y, exec (.zoneSample p 7 sample) s = .next t ∧ t.press p = y ∧
      OnlyChanges [.presses, .scale, .attention] s t ∧ OnlyPress p s t ∧ HandsOn s t ∧
      y = { x with
        state := y.state, forced := y.forced, openPermit := y.openPermit, ejector := y.ejector
        zones := y.zones, setpoints := y.setpoints, segment := y.segment, frozen := y.frozen, ready := y.ready
        run := y.run, context := y.context, lastStep := y.lastStep
        changes := { x.changes with
          readyRose := y.changes.readyRose, readyFell := y.changes.readyFell
          zoneFaultChange := y.changes.zoneFaultChange } } ∧
      (y.state = x.state → y.forced = x.forced ∧ y.openPermit = x.openPermit ∧ y.ejector = x.ejector) ∧
      (s.recipeOf p = none → y.ready = false ∧ y.run = 0 ∧ y.changes.readyRose = x.changes.readyRose ∧
        y.changes.readyFell = x.changes.readyFell ∧ (x.state ≠ .heating → y.state = x.state ∧ t.scale = s.scale)) ∧
      (∀ r : Recipe, s.recipeOf p = some r →
        (x.ready = false → WithinBand y r.readyBand → x.run + 1 < r.readyQualify * 4 →
          y.ready = false ∧ y.run = x.run + 1) ∧
        (x.ready = false → WithinBand y r.readyBand → r.readyQualify * 4 ≤ x.run + 1 → y.ready = true ∧ y.run = 0) ∧
        (x.ready = false → ¬WithinBand y r.readyBand → y.ready = false ∧ y.run = 0) ∧
        (x.ready = true → WithinBand y r.dropBand → y.ready = true ∧ y.run = 0) ∧
        (x.ready = true → ¬WithinBand y r.dropBand → x.run + 1 < r.dropQualify * 4 →
          y.ready = true ∧ y.run = x.run + 1) ∧
        (x.ready = true → ¬WithinBand y r.dropBand → r.dropQualify * 4 ≤ x.run + 1 → y.ready = false ∧ y.run = 0) ∧
        (y.changes.readyRose = true ↔ x.changes.readyRose = true ∨ (x.ready = false ∧ y.ready = true)) ∧
        (y.changes.readyFell = true ↔ x.changes.readyFell = true ∨ (x.ready = true ∧ y.ready = false)) ∧
        (∀ c, x.context = some c → ∃ d, y.context = some d ∧
          (d.panel.flags.tempExcursion = true ↔ c.panel.flags.tempExcursion = true ∨
            (x.ready = true ∧ y.ready = false ∧
              (x.state = .chargeReady ∨ x.state = .curing ∨ x.state = .demouldDue)))) ∧
        (x.state = .chargeWait →
          (x.ready = true ∧ y.ready = false ∧ (∃ u, x.setup = some u ∧ u.gating = .autoGate) →
            y.state = .heating ∧ y.ejector = false ∧
              t.scale = { s.scale with queue := s.scale.queue.filter (· ≠ p) }) ∧
          (¬(x.ready = true ∧ y.ready = false ∧ ∃ u, x.setup = some u ∧ u.gating = .autoGate) →
            y.state = .chargeWait ∧ t.scale = s.scale))) ∧
      (x.state = .heating →
        (s.heat.state = .run ∧ (∃ u, x.setup = some u ∧ (u.gating = .monitor ∨ y.ready = true)) →
          y.state = .chargeWait ∧ y.forced = false ∧ y.ejector = false ∧
            t.scale = { s.scale with queue := s.scale.queue ++ [p] }) ∧
        (¬(s.heat.state = .run ∧ ∃ u, x.setup = some u ∧ (u.gating = .monitor ∨ y.ready = true)) →
          y.state = .heating ∧ t.scale = s.scale)) ∧
      (x.state ≠ .heating → x.state ≠ .chargeWait → t.scale = s.scale ∧ (x.state ≠ .curing → y.state = x.state)) ∧
      (x.context = none → y.context = none) ∧
      (x.state ≠ .curing → x.state ≠ .demouldDue → y.lastStep = x.lastStep ∧
        ∀ c, x.context = some c → ∃ f : RecordFlags, y.context = some { c with panel := { c.panel with flags :=
          { c.panel.flags with tempExcursion := f.tempExcursion, sensorFault := f.sensorFault } } })

/-! ## The cure unit -/

/-- The cure step at the press scan that follows zone 7's sample, for a press in CURING or DEMOULD_DUE, `y` being the press
it leaves and `counted` its counted zones. The last-step record is set anew: time, step number and counted zones. Without a
counted zone the step is stalled: increment 0 and CURE_STALLED. With one, Teff is the least temperature over the counted
zones, x is (Teff − t_ref) × 64 / doubling rounded by the effective mode and clamped to −1024..384, with RATE_CLAMPED above
the upper bound, n and f its split, M the integer nearest 2^(f/64) × 32768, and the increment is M × 2^n, rounded by the same
mode. The accumulator and the step count take the step, each saturating, and the deviation range of the counted zones widens
dev_min and dev_max. In CURING the press then enters DEMOULD_DUE at max_close, with UNDERCURE short of target alone, or with
target and min_close met, and otherwise stays; in DEMOULD_DUE it stays. No other flag is added but SENSOR_FAULT and
TEMP_EXCURSION, which are other statements', and no other field of the context moves but the segment reached (R13, R80, R83,
R85..R100). The order of a press scan's parts is read from several rules (log 13). -/
def Obligations.CureStepsAtPressScans : Prop :=
  ∀ (s : State) (p : PressId) (x : Press) (c : CycleContext) (r : Recipe) (sample : ZoneSample) (close : Clock)
      (span : Nat),
    s.press p = x → x.context = some c → s.recipeOf p = some r → (x.state = .curing ∨ x.state = .demouldDue) →
    c.panel.closeTime = some close → span = (s.clock - close).toNat →
      ∃ (t : State) (y : Press) (d : CycleContext) (q : StepRecord) (counted : List ZoneId) (acc : Nat) (least greatest : Int),
        exec (.zoneSample p 7 sample) s = .next t ∧ t.press p = y ∧ y.context = some d ∧ y.lastStep = some q ∧
        OnlyChanges [.presses, .attention] s t ∧ OnlyPress p s t ∧ HandsOn s t ∧
        counted.Nodup ∧ (∀ z, z ∈ counted ↔ Counted y z) ∧
        q.time = s.clock ∧ q.number = min 65535 (c.stepCount.getD 0 + 1) ∧ q.counted = counted.length ∧
        (counted = [] → q.rate = none ∧ q.increment = 0) ∧
        (counted ≠ [] → ∃ k, q.rate = some k ∧ IsStepRate s.cell.rounding r y counted k ∧
          IsIncrement k.mode k.whole k.mantissa q.increment) ∧
        acc = min 4294967295 (c.accumulator.getD 0 + q.increment) ∧
        d = { c with panel := d.panel, accumulator := some acc, stepCount := some q.number } ∧
        d.panel = { c.panel with
          segmentReached := d.panel.segmentReached, devMin := d.panel.devMin, devMax := d.panel.devMax
          flags := { c.panel.flags with
            cureStalled := c.panel.flags.cureStalled || decide (counted = [])
            rateClamped := c.panel.flags.rateClamped ||
              (match q.rate with | some k => decide (384 < k.rawExponent) | none => false)
            undercure := c.panel.flags.undercure ||
              decide (x.state = .curing ∧ r.maxClose * 1000 ≤ span ∧ acc < r.cureTarget * 8192)
            tempExcursion := d.panel.flags.tempExcursion, sensorFault := d.panel.flags.sensorFault } } ∧
        (counted = [] → d.panel.devMin = c.panel.devMin ∧ d.panel.devMax = c.panel.devMax) ∧
        (counted ≠ [] →
          (∃ z ∈ counted, deviationOf y z = least) ∧ (∃ z ∈ counted, deviationOf y z = greatest) ∧
          (∀ z ∈ counted, least ≤ deviationOf y z ∧ deviationOf y z ≤ greatest) ∧
          d.panel.devMin = some (match c.panel.devMin with | some m => min m least | none => least) ∧
          d.panel.devMax = some (match c.panel.devMax with | some m => max m greatest | none => greatest)) ∧
        (x.state = .demouldDue → q.decision = .noDecision ∧ y.state = .demouldDue) ∧
        (x.state = .curing → r.maxClose * 1000 ≤ span →
          q.decision = .dueAtMaxClose ∧ y.state = .demouldDue ∧ y.openPermit = true) ∧
        (x.state = .curing → span < r.maxClose * 1000 → r.cureTarget * 8192 ≤ acc → r.minClose * 1000 ≤ span →
          q.decision = .due ∧ y.state = .demouldDue ∧ y.openPermit = true) ∧
        (x.state = .curing → span < r.maxClose * 1000 → (acc < r.cureTarget * 8192 ∨ span < r.minClose * 1000) →
          q.decision = .notDue ∧ y.state = .curing)

/-- The four rounding modes of 7.4, as the one integer each selects from num / den: DOWN the greatest not above, UP the
least not below, TOWARD_ZERO the nearest not greater in magnitude, NEAREST_EVEN the nearest, at an exact half the even one.
The cure exponent, the increment and the gross mass use them (R88, R93, R104). -/
def Obligations.RoundingModesSelectTheirInteger : Prop :=
  ∀ (num : Int) (den : Nat), 0 < den →
    (roundQuotient .down num den * den ≤ num ∧ num < (roundQuotient .down num den + 1) * den) ∧
    ((roundQuotient .up num den - 1) * den < num ∧ num ≤ roundQuotient .up num den * den) ∧
    ((0 ≤ num → roundQuotient .towardZero num den = roundQuotient .down num den) ∧
      (num ≤ 0 → roundQuotient .towardZero num den = roundQuotient .up num den)) ∧
    (2 * (num - roundQuotient .nearestEven num den * den).natAbs ≤ den ∧
      (2 * (num - roundQuotient .nearestEven num den * den).natAbs = den →
        roundQuotient .nearestEven num den % 2 = 0))

/-! ## The heat permit unit -/

/-- A HEAT_PERMIT of at least one second, clamped to 600, replaces the remaining count, clears the lapse flag, starts a new
countdown and leaves the heat state RUN. In RUN it is a renewal and no press changes. From OFF or STANDBY every press's
setpoints are recomputed and its readiness reset, and the presses in HEATING under MONITOR enter CHARGE_WAIT and the scale
queue in ascending press number (R62, R63, R64, R66, R69, R76, R78). -/
def Obligations.HeatPermitGrantsHeat : Prop :=
  ∀ (s : State) (duration : BitVec 16) (d : Nat), PinLaw s → s.link.hand = none → d = min duration.toNat 600 → 1 ≤ d →
    ∃ t, exec (.heatPermit duration) s = .next t ∧
      OnlyChanges [.presses, .heat, .scale, .attention, .link] s t ∧ HandsOn s t ∧
      t.heat = { state := .run, remaining := d * 10, lapse := false, nextStep := laterBy s.clock 100 } ∧
      Answers (.heatPermit duration)
        ([0] ++ le16 (BitVec.ofNat 16 d) ++ [1] ++ le16 (BitVec.ofNat 16 (d * 10)) ++ [0]) s t ∧
      (s.heat.state = .run → t.presses = s.presses ∧ t.scale = s.scale) ∧
      (s.heat.state ≠ .run →
        t.scale = { s.scale with queue := s.scale.queue ++ (allPresses.filter fun p =>
          decide ((s.press p).state = .heating ∧ (s.press p).setup.map Setup.gating = some .monitor)) } ∧
        ∀ p x y, s.press p = x →
          y = { x with
            ready := false
            run := 0
            setpoints := Vector.ofFn fun z =>
              match s.recipeOf p with | some r => effectiveSetpoint r .run x.segment z | none => 0 } →
          (x.state = .heating ∧ x.setup.map Setup.gating = some .monitor →
            t.press p = { y with state := .chargeWait, forced := false, ejector := false }) ∧
          (¬(x.state = .heating ∧ x.setup.map Setup.gating = some .monitor) → t.press p = y))

/-- The ways to STANDBY and OFF: HEAT_PERMIT of 0 changes RUN or OFF to STANDBY without a mark, the expiry of the countdown
changes RUN to STANDBY with the lapse flag and PERMIT_LAPSE, and HEAT_OFF changes RUN or STANDBY to OFF with its own mark;
each leaves the scale queue empty. HEAT_OFF in OFF only marks the cycles, HEAT_PERMIT of 0 in STANDBY changes nothing
(R63, R64, R65, R66, R67). -/
def Obligations.HeatFallsToStandbyOrOff : Prop :=
  ∀ s : State, PinLaw s → QueueLaw s → PermitLaw s →
    (s.heat.state ≠ .standby → s.link.hand = none →
      ∃ t, exec (.heatPermit 0) s = .next t ∧
        OnlyChanges [.presses, .heat, .scale, .attention, .link] s t ∧ HandsOn s t ∧
        HeatChangesTo .standby id s.heat.lapse s t ∧
        Answers (.heatPermit 0) [0, 0, 0, 2, 0, 0, if s.heat.lapse then 1 else 0] s t) ∧
    (s.heat.state = .standby → s.link.hand = none →
      ∃ t, exec (.heatPermit 0) s = .next t ∧ OnlyChanges [.attention, .link] s t ∧ HandsOn s t ∧
        Answers (.heatPermit 0) [0, 0, 0, 2, 0, 0, if s.heat.lapse then 1 else 0] s t) ∧
    (s.heat.state = .run →
      ∃ t, exec .permitLapse s = .next t ∧
        OnlyChanges [.presses, .heat, .scale, .attention] s t ∧ HandsOn s t ∧
        HeatChangesTo .standby (fun f => { f with permitLapse := true }) true s t) ∧
    (s.heat.state ≠ .off → s.link.hand = none →
      ∃ t, exec .heatOff s = .next t ∧
        OnlyChanges [.presses, .heat, .scale, .attention, .link] s t ∧ HandsOn s t ∧
        HeatChangesTo .off (fun f => { f with heatOff := true }) s.heat.lapse s t ∧
        Answers .heatOff [0, 0, 0, 0, if s.heat.lapse then 1 else 0] s t) ∧
    (s.heat.state = .off → s.link.hand = none →
      ∃ t, exec .heatOff s = .next t ∧ OnlyChanges [.presses, .attention, .link] s t ∧ HandsOn s t ∧
        Answers .heatOff [0, 0, 0, 0, if s.heat.lapse then 1 else 0] s t ∧
        ∀ p x, s.press p = x →
          t.press p = { x with
            context :=
              (if x.state = .chargeReady ∨ x.state = .curing ∨ x.state = .demouldDue
              then x.context.map fun c =>
                { c with panel := { c.panel with flags := { c.panel.flags with heatOff := true } } }
              else x.context) })

/-- A countdown step lowers the remaining count by 1 and is followed by another 100 ms later; the step that reaches 0 is the
expiry (R64; that it is one event with the lapse is read from R62 and R64, log 8). Outside RUN no countdown runs, and the
two events then change nothing (the model's choice, log 3). -/
def Obligations.CountdownStepsToTheLapse : Prop :=
  ∀ s : State,
    (s.heat.state = .run → 2 ≤ s.heat.remaining →
      exec .permitCountdownStep s = .next { s with heat := { s.heat with
        remaining := s.heat.remaining - 1, nextStep := laterBy s.heat.nextStep 100 } }) ∧
    (s.heat.state = .run → s.heat.remaining ≤ 1 → exec .permitCountdownStep s = exec .permitLapse s) ∧
    (s.heat.state ≠ .run → exec .permitCountdownStep s = .next s ∧ exec .permitLapse s = .next s)

/-! ## The charge scale -/

/-- The load-cell samples that judge no charge, `c` being the scale with the sample and the updated run (R103, R104, R105).
OVERLOAD clears the run. In EMPTY_SETTLE a net at the place threshold starts a stale weighing, and otherwise a run that
becomes stable is taken as tare within tare_limit, the sample's net then 0, and is a tare fault beyond it. In EMPTY a net at the place threshold
starts a fresh weighing. In LOADING and REMOVE_WAIT a net below the empty threshold returns to EMPTY_SETTLE. Every other
sample in those states, and every one in TARE_FAULT, leaves the scale at `c` (R106..R112). That the net held with the last sample
is 0 after the auto-zero is read from R108 (log 26). -/
def Obligations.SamplesMoveTheEmptyScale : Prop :=
  ∀ s : State,
    (∃ t, exec (.loadCellSample .overload) s = .next t ∧ OnlyChanges [.scale, .attention] s t ∧ HandsOn s t ∧
      t.scale = { s.scale with lastSample := some .overload, anchor := none, count := 0 }) ∧
    (∀ (v : BitVec 24) (gross net : Int) (c after : Scale),
      gross = max (-8388607)
        (min (roundQuotient s.cell.rounding ((v.toInt - s.scale.settings.zero) * s.scale.settings.gain) 65536) 8388607) →
      net = max (-8388607) (min (gross - s.scale.tare) 8388607) →
      c = { s.scale with
        lastSample := some (.raw v.toInt gross net)
        lastRaw := v.toInt
        anchor := some (match s.scale.anchor with
          | some a => if (gross - a).natAbs ≤ s.scale.settings.band then a else gross
          | none => gross)
        count := match s.scale.anchor with
          | some a => if (gross - a).natAbs ≤ s.scale.settings.band then min 255 (s.scale.count + 1) else 1
          | none => 1 } →
      ((c.state = .emptySettle ∧ c.settings.placeThreshold ≤ net ∧
          after = { c with state := .loading, stale := true, anchor := some gross, count := 1 }) ∨
        (c.state = .emptySettle ∧ net < c.settings.placeThreshold ∧ c.count = s.scale.count + 1 ∧
          c.count = c.settings.qualify ∧ (gross.natAbs : Int) ≤ c.settings.tareLimit ∧
          after = { c with state := .empty, tare := gross, lastSample := some (.raw v.toInt gross 0) }) ∨
        (c.state = .emptySettle ∧ net < c.settings.placeThreshold ∧ c.count = s.scale.count + 1 ∧
          c.count = c.settings.qualify ∧ c.settings.tareLimit < (gross.natAbs : Int) ∧
          after = { c with state := .tareFault, faultGross := some gross }) ∨
        (c.state = .emptySettle ∧ net < c.settings.placeThreshold ∧
          ¬(c.count = s.scale.count + 1 ∧ c.count = c.settings.qualify) ∧ after = c) ∨
        (c.state = .empty ∧ c.settings.placeThreshold ≤ net ∧
          after = { c with state := .loading, stale := false, anchor := some gross, count := 1 }) ∨
        (c.state = .empty ∧ net < c.settings.placeThreshold ∧ after = c) ∨
        (c.state = .loading ∧ net < c.settings.emptyThreshold ∧
          after = { c with state := .emptySettle, stale := false, anchor := some gross, count := 1 }) ∨
        (c.state = .loading ∧ c.settings.emptyThreshold ≤ net ∧
          ¬(c.count = s.scale.count + 1 ∧ c.count = c.settings.qualify) ∧ after = c) ∨
        (c.state = .removeWait ∧ net < c.settings.emptyThreshold ∧
          after = { c with state := .emptySettle, held := none, anchor := some gross, count := 1 }) ∨
        (c.state = .removeWait ∧ c.settings.emptyThreshold ≤ net ∧ after = c) ∨
        (c.state = .tareFault ∧ after = c)) →
      ∃ t, exec (.loadCellSample (.raw v)) s = .next t ∧ OnlyChanges [.scale, .attention] s t ∧ HandsOn s t ∧
        t.scale = after)

/-- A charge is accepted only for the press at the head of the scale queue and only within that press's recipe window: at
the sample in LOADING whose run becomes stable there, `c` being the scale with that sample and its run, the press leaves the
queue, enters CHARGE_READY and opens its cycle context with the next serial, the stable net and the sample's time; the next
serial advances, or the exhausted mark is set; and the scale holds the verdict (R10, R113, R114, R134). -/
def Obligations.AcceptedChargeOpensTheContext : Prop :=
  ∀ (s : State) (p : PressId) (rest : List PressId) (x : Press) (u : Setup) (r : Recipe) (v : BitVec 24)
    (gross net : Int) (c : Scale), PinLaw s → QueueLaw s → s.press p = x → s.scale.queue = p :: rest →
    x.setup = some u → s.recipes[u.slot] = some r → s.history.exhausted = false → s.history.nextSerial ≤ 4294967295 →
    gross = grossMass s.cell.rounding s.scale.settings v.toInt → net = netMass s.scale.tare gross →
    c = Scale.updateRun gross { s.scale with lastSample := some (.raw v.toInt gross net), lastRaw := v.toInt } →
    s.scale.state = .loading → s.scale.settings.emptyThreshold ≤ net →
    c.count = s.scale.count + 1 → c.count = s.scale.settings.qualify → r.chargeMin ≤ net → net ≤ r.chargeMax →
      ∃ t, exec (.loadCellSample (.raw v)) s = .next t ∧
        OnlyChanges [.presses, .scale, .history, .attention] s t ∧ OnlyPress p s t ∧ HandsOn s t ∧
        t.press p = { x with
          state := .chargeReady
          context := some
            { panel :=
                { serial := s.history.nextSerial, press := p, recipe := u.slot, mass := net, weighTime := s.clock,
                  closeTime := none, openTime := none, accumulatorAtOpen := none, stepCountAtOpen := none,
                  devMin := none, devMax := none, segmentReached := 0, contactDelay := none, retries := 0,
                  commitTime := none,
                  flags :=
                    { undercure := false, aborted := false, earlyOpen := false, cureStalled := false,
                      tempExcursion := false, permitLapse := false, heatOff := false, rateClamped := false,
                      tareStale := s.scale.stale, ejectRetried := false, sensorFault := false } },
              accumulator := none, stepCount := none } } ∧
        t.history = { s.history with
          nextSerial := if s.history.nextSerial = 4294967295 then 4294967295 else s.history.nextSerial + 1
          exhausted := decide (s.history.nextSerial = 4294967295) } ∧
        t.scale = { c with
          state := .removeWait
          queue := rest
          held := some
            { verdict := .accept, mass := net, time := s.clock, press := some p, serial := some s.history.nextSerial,
              tareStale := s.scale.stale } }

/-- A stable charge that is not accepted: NO_CLAIM with an empty scale queue, NO_SERIAL with the serials exhausted, UNDER
below and OVER above the head press's recipe window. The scale holds the verdict with the head press, and nothing else
changes: the queue stays, no serial is taken, no context is opened (R113, R115). -/
def Obligations.OtherVerdictsHoldTheCharge : Prop :=
  ∀ (s : State) (v : BitVec 24) (gross net : Int) (c : Scale) (verdict : Verdict),
    gross = grossMass s.cell.rounding s.scale.settings v.toInt → net = netMass s.scale.tare gross →
    c = Scale.updateRun gross { s.scale with lastSample := some (.raw v.toInt gross net), lastRaw := v.toInt } →
    s.scale.state = .loading → s.scale.settings.emptyThreshold ≤ net →
    c.count = s.scale.count + 1 → c.count = s.scale.settings.qualify →
    ((s.scale.queue = [] ∧ verdict = .noClaim) ∨
      (s.scale.queue ≠ [] ∧ s.history.exhausted = true ∧ verdict = .noSerial) ∨
      (∃ p rest r, s.scale.queue = p :: rest ∧ s.history.exhausted = false ∧ s.recipeOf p = some r ∧
        net < r.chargeMin ∧ verdict = .under) ∨
      (∃ p rest r, s.scale.queue = p :: rest ∧ s.history.exhausted = false ∧ s.recipeOf p = some r ∧
        r.chargeMin ≤ net ∧ r.chargeMax < net ∧ verdict = .over)) →
      ∃ t, exec (.loadCellSample (.raw v)) s = .next t ∧ OnlyChanges [.scale, .attention] s t ∧ HandsOn s t ∧
        t.scale = { c with
          state := .removeWait
          held := some
            { verdict := verdict, mass := net, time := s.clock, press := s.scale.queue.head?, serial := none,
              tareStale := s.scale.stale } }

/-- SCALE_SET outside LOADING replaces the seven settings and SCALE_ZERO in EMPTY_SETTLE, EMPTY or TARE_FAULT takes the last
raw as zero with tare 0; both send the scale to EMPTY_SETTLE with its run cleared. A setting out of range is refused with its
field number, and the scale state that does not allow the request with STATE (R118, R119, R120). That both leave the last
sample's gross and net as they were computed is the model's reading (log 26). -/
def Obligations.ScaleRequestsSettleTheScale : Prop :=
  ∀ s : State, s.link.hand = none →
    (∀ (zero gain : BitVec 32) (band : BitVec 16) (qualify : Byte) (place empty tareLimit : BitVec 32) (cmd : Instr)
        (good : Nat → Prop),
      cmd = .scaleSet zero gain band qualify place empty tareLimit →
      (∀ k, good k ↔
        (1 < k → -8388608 ≤ zero.toInt ∧ zero.toInt ≤ 8388607) ∧ (2 < k → 1 ≤ gain.toNat ∧ gain.toNat ≤ 16777215) ∧
        (3 < k → 1 ≤ band.toNat ∧ band.toNat ≤ 1000) ∧ (4 < k → 3 ≤ qualify.toNat ∧ qualify.toNat ≤ 50) ∧
        (5 < k → 1 ≤ place.toInt ∧ place.toInt ≤ 8388607) ∧
        (6 < k → 1 ≤ empty.toInt ∧ empty.toInt ≤ 8388606 ∧ empty.toInt < place.toInt) ∧
        (7 < k → 0 ≤ tareLimit.toInt ∧ tareLimit.toInt ≤ 100000)) →
      (good 8 → s.scale.state ≠ .loading →
        ∃ t, exec cmd s = .next t ∧ OnlyChanges [.scale, .attention, .link] s t ∧ HandsOn s t ∧
          t.scale = { s.scale with
            settings :=
              { zero := zero.toInt, gain := gain.toNat, band := band.toNat, qualify := qualify.toNat,
                placeThreshold := place.toInt, emptyThreshold := empty.toInt, tareLimit := tareLimit.toInt }
            state := .emptySettle, anchor := none, count := 0, stale := false, held := none, faultGross := none } ∧
          Answers cmd ([0] ++ le32 zero ++ le32 gain ++ le16 band ++ [qualify] ++ le32 place ++ le32 empty ++
            le32 tareLimit) s t) ∧
      (good 8 → s.scale.state = .loading → ∃ t, exec cmd s = .next t ∧ OnlyAnswers cmd [4] s t) ∧
      (∀ k, 1 ≤ k → k ≤ 7 → good k → ¬good (k + 1) →
        ∃ t, exec cmd s = .next t ∧ OnlyAnswers cmd [3, numberByte k] s t)) ∧
    (s.scale.state ≠ .loading → s.scale.state ≠ .removeWait →
      ∃ t, exec .scaleZero s = .next t ∧ OnlyChanges [.scale, .attention, .link] s t ∧ HandsOn s t ∧
        t.scale = { s.scale with
          settings := { s.scale.settings with zero := s.scale.lastRaw }
          tare := 0, state := .emptySettle, anchor := none, count := 0, stale := false, faultGross := none } ∧
        Answers .scaleZero (0 :: le32 (BitVec.ofInt 32 s.scale.lastRaw)) s t) ∧
    ((s.scale.state = .loading ∨ s.scale.state = .removeWait) →
      ∃ t, exec .scaleZero s = .next t ∧ OnlyAnswers .scaleZero [4] s t)

/-! ## The part history -/

/-- HISTORY_ACK of a serial in the history queue removes the records up to and including the first that carries it, and
releases held presses in the order of the wait list while there is room: their records join the tail, they hold no context
and go on from HEATING, and those that pass admission join the scale queue in that order. A serial not in the queue is
answered NOT_FOUND and nothing changes (R22, R130, R138). -/
def Obligations.HistoryAckReleasesHeldPresses : Prop :=
  ∀ (s : State) (serial : BitVec 32), s.link.hand = none →
    (∀ (j k : Nat) (record : PartRecord) (admits : PressId → Bool), PinLaw s → CycleLaw s →
      (∀ p, admits p = true ↔ Admissible s p) → s.history.records[j]? = some record →
      record.serial = serial.toNat → (∀ i a, i < j → s.history.records[i]? = some a → a.serial ≠ serial.toNat) →
      k = min (j + 1) s.history.waitList.length →
      ∃ t, exec (.historyAck serial) s = .next t ∧
        OnlyChanges [.presses, .scale, .history, .attention, .link] s t ∧ HandsOn s t ∧
        t.history = { s.history with
          waitList := s.history.waitList.drop k
          records := s.history.records.drop (j + 1) ++ ((s.history.waitList.take k).filterMap fun p =>
            (s.press p).context.map fun c => { panel := c.panel, grade := c.panel.flags.grade }) } ∧
        t.scale = { s.scale with queue := s.scale.queue ++ (s.history.waitList.take k).filter admits } ∧
        (∀ p x, s.press p = x →
          (p ∉ s.history.waitList.take k → t.press p = x) ∧
          (p ∈ s.history.waitList.take k →
            t.press p = { x with context := none, state := if admits p = true then .chargeWait else .heating })) ∧
        Answers (.historyAck serial)
          ([0, numberByte (j + 1), numberByte k, numberByte t.history.records.length] ++
            (match t.history.records with
              | [] => [0, 0, 0, 0, 0]
              | a :: _ => 1 :: le32 (BitVec.ofNat 32 a.serial))) s t) ∧
    ((∀ a ∈ s.history.records, a.serial ≠ serial.toNat) →
      ∃ t, exec (.historyAck serial) s = .next t ∧ OnlyAnswers (.historyAck serial) [6] s t)

/-! ## Status requests -/

/-- The requests that report and change nothing: RECIPE_READ and the requests of chapter 9 apart, each status request
answers the contents its section lists, formed at that moment and laid out in tables of bytes, in a payload of one length;
HISTORY_READ answers the record at its position in 75 bytes, and NOT_FOUND at or above the count (R59, R81, R100, R101, R113,
R121, R136, R137, R163, R186, R188). The two queues on the wire hold at most four presses each. Which items of a reply carry
a presence byte is read from R188 (log 12). -/
def Obligations.StatusRequestsOnlyReport : Prop :=
  ∀ s : State, s.link.hand = none →
    (∀ (c : Instr) (table : Layout) (length : Nat),
      ((∃ p : PressId, c = .zoneStatus (numberByte p) ∧ table = zoneStatusTable s p ∧ length = 193) ∨
        (c = .heatStatus ∧ table = heatStatusTable s ∧ length = 33) ∨
        (∃ p : PressId, c = .cureStatus (numberByte p) ∧ table = cureStatusTable s p ∧ length = 71) ∨
        (c = .scaleStatus ∧ table = scaleStatusTable s ∧ length = 84) ∨
        (c = .historyStatus ∧ table = historyStatusTable s ∧ length = 40) ∨
        (c = .attnRead ∧ table = attnReadTable s.attention ∧ length = 20)) →
      ∃ t payload, exec c s = .next t ∧ OnlyAnswers c payload s t ∧
        (s.scale.queue.length ≤ 4 → s.history.waitList.length ≤ 4 → payload.length = length ∧ table.holds payload)) ∧
    (∀ (position : Byte) (record : PartRecord), s.history.records[position.toNat]? = some record →
      ∃ t payload, exec (.historyRead position) s = .next t ∧ OnlyAnswers (.historyRead position) payload s t ∧
        payload.length = 75 ∧ (historyReadTable position s.history.records.length record).holds payload) ∧
    (∀ position : Byte, s.history.records.length ≤ position.toNat →
      ∃ t, exec (.historyRead position) s = .next t ∧ OnlyAnswers (.historyRead position) [6] s t)

/-! ## The attention controller -/

/-- POLL grants the presentable level of highest priority by the present ring: an EDGE latch is cleared, the level enters
service unless auto-end is on, auto-end with rotation makes it the lowest level, and ATTN is judged again; the reply carries
level, entry, press, lowest level and a snapshot of fourteen bytes, the level's row of R187, formed after the grant. With no level presentable POLL
answers NONE and changes nothing (R149, R152, R153, R154, R155, R187). -/
def Obligations.PollGrantsTheHighestLevel : Prop :=
  ∀ s : State, s.link.hand = none →
    (∀ (l : LevelId) (k : Level), s.attention.presentable l = true → s.attention.levels[l] = k →
      (∀ m, s.attention.presentable m = true → rank s.attention.lowest l ≤ rank s.attention.lowest m) →
      ∃ t payload, exec .poll s = .next t ∧ OnlyChanges [.attention, .link] s t ∧
        t.attention.levels[l] = { k with
          request := if k.edge then false else k.request
          inService := if s.attention.autoEnd then k.inService else true } ∧
        (∀ m : LevelId, m ≠ l → t.attention.levels[m] = s.attention.levels[m]) ∧
        t.attention.lowest =
          (if s.attention.autoEnd && s.attention.rotateOnAuto then l else s.attention.lowest) ∧
        t.attention.openNesting = s.attention.openNesting ∧ t.attention.autoEnd = s.attention.autoEnd ∧
        t.attention.rotateOnAuto = s.attention.rotateOnAuto ∧
        (t.attention.attn = true ↔ ∃ m, t.attention.presentable m = true) ∧
        Answers .poll payload s t ∧ payload.length = 19 ∧
        payload.take 5 = [0, numberByte l, if s.attention.autoEnd then 0 else 1,
          if l.val < 4 then 255 else numberByte (l.val % 4), numberByte t.attention.lowest] ∧
        (snapshotTable t l).holds payload) ∧
    ((∀ l, s.attention.presentable l = false) →
      ∃ t, exec .poll s = .next t ∧
        OnlyAnswers .poll ([0, 255, 0, 255, numberByte s.attention.lowest] ++ List.replicate 14 0) s t)

/-- END_SERVICE NON_SPECIFIC ends the unmasked level in service of highest priority, SPECIFIC the named level when it is in
service; ROTATE then makes that level the lowest, for SPECIFIC even when none ended; ATTN is judged after both. With nothing
to end and no rotation the controller stays as its last judgement left it. The fields are refused with RANGE in their order,
the level for SPECIFIC alone (R152, R157, R158, R159). -/
def Obligations.EndServiceEndsOneLevel : Prop :=
  ∀ s : State, s.link.hand = none →
    (∀ (form level rotateCode : Byte) (l : LevelId) (rotate ends : Bool) (cmd : Instr),
      cmd = .endService form level rotateCode → rotateCode = (if rotate then 1 else 0) →
      ((form = 0 ∧ ends = true ∧ s.attention.levels[l].inService = true ∧ s.attention.levels[l].masked = false ∧
          (∀ m : LevelId, s.attention.levels[m].inService = true → s.attention.levels[m].masked = false →
            rank s.attention.lowest l ≤ rank s.attention.lowest m)) ∨
        (form = 1 ∧ level = numberByte l ∧ ends = s.attention.levels[l].inService)) →
      ∃ t, exec cmd s = .next t ∧ OnlyChanges [.attention, .link] s t ∧
        t.attention.levels[l] = { s.attention.levels[l] with inService := false } ∧
        (∀ m : LevelId, m ≠ l → t.attention.levels[m] = s.attention.levels[m]) ∧
        t.attention.lowest = (if rotate then l else s.attention.lowest) ∧
        t.attention.openNesting = s.attention.openNesting ∧ t.attention.autoEnd = s.attention.autoEnd ∧
        t.attention.rotateOnAuto = s.attention.rotateOnAuto ∧
        (t.attention.attn = true ↔ ∃ m, t.attention.presentable m = true) ∧
        Answers cmd [0, if ends then numberByte l else 255, numberByte t.attention.lowest] s t) ∧
    (∀ (level rotateCode : Byte), rotateCode.toNat ≤ 1 →
      (∀ m : LevelId, s.attention.levels[m].inService = true → s.attention.levels[m].masked = true) →
      ∃ t, exec (.endService 0 level rotateCode) s = .next t ∧
        OnlyAnswers (.endService 0 level rotateCode) [0, 255, numberByte s.attention.lowest] s t) ∧
    (∀ (form level rotateCode : Byte) (cmd : Instr), cmd = .endService form level rotateCode →
      ∃ t, exec cmd s = .next t ∧
        (1 < form.toNat → OnlyAnswers cmd [3, 1] s t) ∧
        (form = 1 → 12 ≤ level.toNat → OnlyAnswers cmd [3, 2] s t) ∧
        (form = 1 → level.toNat < 12 → 1 < rotateCode.toNat → OnlyAnswers cmd [3, 3] s t) ∧
        (form = 0 → 1 < rotateCode.toNat → OnlyAnswers cmd [3, 3] s t))

/-- SET_LOWEST makes the named level the lowest and judges ATTN again; the levels, and the other options, are as they were.
A level above 11 is refused with RANGE (R150). -/
def Obligations.SetLowestTurnsTheRing : Prop :=
  ∀ s : State, s.link.hand = none →
    (∀ l : LevelId,
      ∃ t, exec (.setLowest (numberByte l)) s = .next t ∧ OnlyChanges [.attention, .link] s t ∧
        t.attention = { s.attention with lowest := l, attn := t.attention.attn } ∧
        (t.attention.attn = true ↔ ∃ m, t.attention.presentable m = true) ∧
        Answers (.setLowest (numberByte l)) [0, numberByte l] s t) ∧
    (∀ b : Byte, 12 ≤ b.toNat →
      ∃ t, exec (.setLowest b) s = .next t ∧ OnlyAnswers (.setLowest b) [3, 1] s t)

/-- ATTN_SETUP writes all its fields: a changed trigger mode sets request and armed from the condition, an unchanged one
keeps them; the mask, nesting, auto-end and rotation become the requested ones; the in-service set and the ring stay; ATTN
is judged again. The reply carries the settings, the request set and the in-service set. The first field out of range is
refused with RANGE (R147, R152, R161, R162). -/
def Obligations.AttnSetupWritesTheSetup : Prop :=
  ∀ (s : State) (mask edge : BitVec 16) (nesting autoEnd rotate : Byte) (cmd : Instr), s.link.hand = none →
    cmd = .attnSetup mask edge nesting autoEnd rotate →
    (mask.toNat < 4096 → edge.toNat < 4096 → nesting.toNat ≤ 1 → autoEnd.toNat ≤ 1 → rotate.toNat ≤ 1 →
      ∃ t requests serving, exec cmd s = .next t ∧ OnlyChanges [.attention, .link] s t ∧
        (∀ (l : LevelId) (k : Level), s.attention.levels[l] = k →
          (edge.getLsbD l = k.edge → t.attention.levels[l] = { k with masked := mask.getLsbD l }) ∧
          (edge.getLsbD l = true → k.edge = false →
            t.attention.levels[l] = { k with
              edge := true, request := k.condition, armed := !k.condition, masked := mask.getLsbD l }) ∧
          (edge.getLsbD l = false → k.edge = true →
            t.attention.levels[l] = { k with
              edge := false, request := k.condition, armed := true, masked := mask.getLsbD l })) ∧
        t.attention.lowest = s.attention.lowest ∧ t.attention.openNesting = decide (nesting = 1) ∧
        t.attention.autoEnd = decide (autoEnd = 1) ∧ t.attention.rotateOnAuto = decide (rotate = 1) ∧
        (t.attention.attn = true ↔ ∃ m, t.attention.presentable m = true) ∧
        (∀ l : LevelId, requests.getLsbD l = t.attention.levels[l].request ∧
          serving.getLsbD l = t.attention.levels[l].inService) ∧
        Answers cmd (0 :: le16 mask ++ le16 edge ++ [nesting, autoEnd, rotate] ++ le16 requests ++ le16 serving) s t) ∧
    (∃ t, exec cmd s = .next t ∧
      (4096 ≤ mask.toNat → OnlyAnswers cmd [3, 1] s t) ∧
      (mask.toNat < 4096 → 4096 ≤ edge.toNat → OnlyAnswers cmd [3, 2] s t) ∧
      (mask.toNat < 4096 → edge.toNat < 4096 → 1 < nesting.toNat → OnlyAnswers cmd [3, 3] s t) ∧
      (mask.toNat < 4096 → edge.toNat < 4096 → nesting.toNat ≤ 1 → 1 < autoEnd.toNat → OnlyAnswers cmd [3, 4] s t) ∧
      (mask.toNat < 4096 → edge.toNat < 4096 → nesting.toNat ≤ 1 → autoEnd.toNat ≤ 1 → 1 < rotate.toNat →
        OnlyAnswers cmd [3, 5] s t))

/-- The levels of the attention controller, each thing by its own table. Condition: the causes of R141 and R142, the
near-full count of R133, the scale's alarm of R122, and the press states of R144. Request: in LEVEL mode it is the condition;
in EDGE mode a rise with armed set latches the request and clears armed, a fall sets armed and keeps the request, and an
unchanged condition moves nothing; trigger mode, mask and membership stay (R145, R146, R148). Rank: (l − lowest − 1) modulo
12 (R149). Presentable: requested, not masked, not in service, and in NESTED mode higher in priority than every level in
service (R151). -/
def Obligations.RequestsFollowTheTriggerMode : Prop :=
  (∀ s : State,
    (s.condition 0 = true ↔ ∃ p : PressId, (s.press p).state = .ejectFault ∨
      ((s.press p).state ≠ .offline ∧ ∃ (u : Setup) (z : ZoneId), (s.press p).setup = some u ∧
        u.zones.getLsbD z.val = true ∧ (s.press p).zones[z].sensor = .fault)) ∧
    (s.condition 1 = true ↔ s.heat.lapse = true) ∧
    (s.condition 2 = true ↔ (s.scale.state = .removeWait ∧ ∃ v, s.scale.held = some v ∧ v.verdict ≠ .accept) ∨
      s.scale.state = .tareFault) ∧
    (s.condition 3 = true ↔ 61 ≤ s.history.records.length ∨ s.history.waitList ≠ []) ∧
    (∀ (p : PressId) (l : LevelId),
      (l.val = 4 + p.val → (s.condition l = true ↔ (s.press p).state = .unloadWait)) ∧
      (l.val = 8 + p.val → (s.condition l = true ↔ (s.press p).state = .chargeReady)))) ∧
  (∀ (k : Level) (value : Bool),
    (k.edge = false → k.handOn value = { k with condition := value, request := value }) ∧
    (k.edge = true → k.condition = false → value = true → k.armed = true →
      k.handOn value = { k with condition := true, request := true, armed := false }) ∧
    (k.edge = true → k.condition = true → value = false →
      k.handOn value = { k with condition := false, armed := true }) ∧
    (k.edge = true → value = k.condition → k.handOn value = k)) ∧
  (∀ lowest l : LevelId, (rank lowest l : Int) = ((l.val : Int) - lowest.val - 1) % 12) ∧
  (∀ (a : Attention) (l : LevelId), a.presentable l = true ↔
    a.levels[l].request = true ∧ a.levels[l].masked = false ∧ a.levels[l].inService = false ∧
      (a.openNesting = false → ∀ m : LevelId, a.levels[m].inService = true → rank a.lowest l < rank a.lowest m))

/-! ## The laws of the device, kept by every step -/

/-- Every step keeps the law of the output pins: OPEN_PERMIT exactly in DEMOULD_DUE, EJECTOR exactly in the pulse of a
stroke or under the forced level in OFFLINE and HEATING, and the forced level off elsewhere (R3). -/
def Obligations.PinsFollowTheStates : Prop := KeptByEveryStep PinLaw

/-- Every step keeps the law of the attention controller: the held conditions are those of the source blocks, request and
armed follow them as the trigger mode gives, and ATTN is asserted exactly while a level is presentable (R141, R145, R146,
R152). -/
def Obligations.AttentionFollowsTheConditions : Prop := KeptByEveryStep AttentionLaw

/-- Every step keeps the laws of the presses together: the scale queue holds exactly the presses in CHARGE_WAIT and the
commit wait list exactly those in COMMIT_HELD, none twice, with the history queue full while a press waits; a press waits for
a charge in the heat state RUN alone; a press holds a context exactly in CHARGE_READY..COMMIT_HELD, with the fields its
state asks; and a setup, a window sequence and a stroke exactly as its state asks (R24, R36, R55, R66, R116, R128, R129). -/
def Obligations.PressesKeepTheirPlaces : Prop := KeptByEveryStep CycleLaw

/-- Every step keeps the law of the serials: no serial stands in two places, and none lies above the next serial (R128,
R134). -/
def Obligations.SerialsStayUnique : Prop := KeptByEveryStep SerialLaw

/-- Every step keeps the laws of the platens: valid recipes, no duty and no heat in a zone held off, duties within max_duty
(R27, R47, R54, R58), in states that meet the law of the presses and their queues, which every step keeps too; and every
setpoint the one the recipe, the heat state and the segment give (R68, R69). -/
def Obligations.PlatensStayWithinTheRecipe : Prop :=
  (∀ s t : State, CycleLaw s → PlatenLaw s → step s = .next t → PlatenLaw t) ∧ KeptByEveryStep SetpointLaw

/-- Every step keeps the laws of the heat permit unit, the scale and the link: a countdown exactly in RUN, a held verdict
exactly in REMOVE_WAIT and a fault gross exactly in TARE_FAULT, and a full pending slot only behind an entry in hand (R62,
R105, R108, R113, R171). -/
def Obligations.UnitsKeepTheirLaws : Prop :=
  KeptByEveryStep PermitLaw ∧ KeptByEveryStep ScaleLaw ∧ KeptByEveryStep LinkLaw
end

