-- ==== Sys2Proof/Laws/Layout.lean ====
section
/-! SUPPORT. How many bytes each item of a reply and each reply's contents take (10.1, R188), whatever the values. -/

namespace Sys2Proof.Machine

/-! ## Items -/

@[simp] theorem le16_length (v : BitVec 16) : (le16 v).length = 2 := rfl
@[simp] theorem le32_length (v : BitVec 32) : (le32 v).length = 4 := rfl
@[simp] theorem num8_length (n : Nat) : (num8 n).length = 1 := rfl
@[simp] theorem num16_length (n : Nat) : (num16 n).length = 2 := rfl
@[simp] theorem num32_length (n : Nat) : (num32 n).length = 4 := rfl
@[simp] theorem int8_length (i : Int) : (int8 i).length = 1 := rfl
@[simp] theorem int16_length (i : Int) : (int16 i).length = 2 := rfl
@[simp] theorem int32_length (i : Int) : (int32 i).length = 4 := rfl
@[simp] theorem flagByte_length (b : Bool) : (flagByte b).length = 1 := rfl

/-- An item given only in some cases takes its width and the presence byte, given or not. -/
theorem optionalItem_length {α : Type} {width : Nat} {write : α → List Byte} (o : Option α)
    (h : ∀ a, (write a).length = width) : (optionalItem width write o).length = width + 1 := by
  cases o <;> simp [optionalItem, h]

/-- A word that may be absent takes its width. -/
theorem valueOrZeros_length {α : Type} {width : Nat} {write : α → List Byte} (o : Option α)
    (h : ∀ a, (write a).length = width) : (valueOrZeros width write o).length = width := by
  cases o <;> simp [valueOrZeros, h]

/-- Items of one width, one after another. -/
theorem flatMap_length {α : Type} {width : Nat} {write : α → List Byte} (h : ∀ a, (write a).length = width)
    (l : List α) : (l.flatMap write).length = width * l.length := by
  induction l with
  | nil => simp
  | cons a l ih => simp [h, ih]; ring

/-- A list of at most four entries takes its length byte and four entries. -/
theorem listItem_length {α : Type} {width : Nat} {write : α → List Byte} (l : List α)
    (h : ∀ a, (write a).length = width) (hl : l.length ≤ 4) : (listItem width write l).length = 1 + 4 * width := by
  unfold listItem
  rw [List.take_of_length_le hl, List.length_append, List.length_append, flatMap_length h, List.length_replicate,
    num8_length, Nat.mul_comm width, Nat.add_assoc, ← Nat.add_mul]
  congr 2
  omega

/-! ## Records -/

theorem PanelRecord.words_length (r : PanelRecord) (g : Option RecordClass) : (r.words g).length = 72 := by
  have time (o : Option Clock) : (valueOrZeros 4 (fun t : Clock => le32 t) o).length = 4 :=
    valueOrZeros_length o fun _ => rfl
  have count (o : Option Nat) : (valueOrZeros 4 num32 o).length = 4 := valueOrZeros_length o fun _ => rfl
  have signed (o : Option Int) : (valueOrZeros 4 int32 o).length = 4 := valueOrZeros_length o fun _ => rfl
  have grade (o : Option RecordClass) : (valueOrZeros 4 (fun g : RecordClass => num32 g.code) o).length = 4 :=
    valueOrZeros_length o fun _ => rfl
  simp only [PanelRecord.words, List.length_append, num32_length, int32_length, le32_length, time, count, signed, grade]

theorem RecipeWire.bytes_length (r : RecipeWire) : r.bytes.length = 91 := by
  have trims : (r.zoneTrim.toList.flatMap le16).length = 16 := by
    rw [flatMap_length (width := 2) le16_length, Vector.length_toList]
  have segments : ((List.finRange 8).flatMap fun k => le16 r.durations[k] ++ le16 r.offsets[k]).length = 32 := by
    rw [flatMap_length (width := 4) fun k => by simp, List.length_finRange]
  unfold RecipeWire.bytes
  generalize r.zoneTrim.toList.flatMap le16 = a at *
  generalize (List.finRange 8).flatMap _ = b at *
  simp only [List.length_append, trims, segments, le16_length, le32_length, List.length_cons, List.length_nil]

theorem zoneContents_length (x : Press) (z : ZoneId) : (zoneContents x z).length = 23 := by
  have h : ∀ v, (sampleBytes v).length = 3 := fun v => by cases v <;> rfl
  simp [zoneContents, h]

theorem StepRecord.bytes_length (q : StepRecord) : q.bytes.length = 35 := by
  simp only [StepRecord.bytes, List.length_append, num8_length, num16_length, num32_length]
  repeat rw [optionalItem_length]
  all_goals exact fun _ => rfl

theorem ScaleSample.bytes_length (q : ScaleSample) : q.bytes.length = 13 := by
  cases q <;> simp [ScaleSample.bytes]

theorem VerdictRecord.bytes_length (v : VerdictRecord) : v.bytes.length = 17 := by
  simp only [VerdictRecord.bytes, List.length_append, num8_length, int32_length, le32_length, flagByte_length]
  repeat rw [optionalItem_length]
  all_goals exact fun _ => rfl

/-! ## Tables of a payload's bytes -/

@[simp] theorem Layout.holds_nil (payload : List Byte) : Layout.holds [] payload := fun _ h => by cases h

@[simp] theorem Layout.holds_cons (row : Nat × List Byte) (table : Layout) (payload : List Byte) :
    Layout.holds (row :: table) payload ↔ (payload.drop row.1).take row.2.length = row.2 ∧ table.holds payload :=
  List.forall_mem_cons

@[simp] theorem Layout.holds_append (a b : Layout) (payload : List Byte) :
    Layout.holds (a ++ b) payload ↔ a.holds payload ∧ b.holds payload :=
  List.forall_mem_append

/-- A shifted table holds of a payload when the table holds of the payload from the offset on. -/
theorem Layout.holds_shifted (table : Layout) (offset : Nat) (payload : List Byte) :
    (table.shifted offset).holds payload ↔ table.holds (payload.drop offset) := by
  simp only [Layout.shifted, Layout.holds, List.forall_mem_map, List.drop_drop]

/-- One item and the rest of a payload: a row at the offset of the item reads the item. -/
theorem row_at_item (before item rest : List Byte) :
    ((before ++ item ++ rest).drop before.length).take item.length = item := by
  simp

end Sys2Proof.Machine
end

