-- ==== Sys2Proof/Laws/State.lean ====
section
/-! SUPPORT. One lemma for each field of each shared update of the state, so that no later proof unfolds a record update.
Each says that the update leaves a field as it was, or what it makes of it. -/

namespace Sys2Proof.Machine

variable (s : State) (x : Press) (p q : PressId) (z w : ZoneId)

/-! ## One press changed -/

@[simp] theorem State.modPress_clock (f : Press → Press) :
    (s.modPress p f).clock = s.clock := rfl

@[simp] theorem State.modPress_scanPhase (f : Press → Press) :
    (s.modPress p f).scanPhase = s.scanPhase := rfl

@[simp] theorem State.modPress_loadPhase (f : Press → Press) :
    (s.modPress p f).loadPhase = s.loadPhase := rfl

@[simp] theorem State.modPress_cell (f : Press → Press) :
    (s.modPress p f).cell = s.cell := rfl

@[simp] theorem State.modPress_recipes (f : Press → Press) :
    (s.modPress p f).recipes = s.recipes := rfl

@[simp] theorem State.modPress_heat (f : Press → Press) :
    (s.modPress p f).heat = s.heat := rfl

@[simp] theorem State.modPress_scale (f : Press → Press) :
    (s.modPress p f).scale = s.scale := rfl

@[simp] theorem State.modPress_history (f : Press → Press) :
    (s.modPress p f).history = s.history := rfl

@[simp] theorem State.modPress_attention (f : Press → Press) :
    (s.modPress p f).attention = s.attention := rfl

@[simp] theorem State.modPress_link (f : Press → Press) :
    (s.modPress p f).link = s.link := rfl

@[simp] theorem State.modPress_pending (f : Press → Press) :
    (s.modPress p f).pending = s.pending := rfl

/-! ## Every press changed -/

@[simp] theorem State.modAll_clock (f : PressId → Press → Press) :
    (s.modAll f).clock = s.clock := rfl

@[simp] theorem State.modAll_scanPhase (f : PressId → Press → Press) :
    (s.modAll f).scanPhase = s.scanPhase := rfl

@[simp] theorem State.modAll_loadPhase (f : PressId → Press → Press) :
    (s.modAll f).loadPhase = s.loadPhase := rfl

@[simp] theorem State.modAll_cell (f : PressId → Press → Press) :
    (s.modAll f).cell = s.cell := rfl

@[simp] theorem State.modAll_recipes (f : PressId → Press → Press) :
    (s.modAll f).recipes = s.recipes := rfl

@[simp] theorem State.modAll_heat (f : PressId → Press → Press) :
    (s.modAll f).heat = s.heat := rfl

@[simp] theorem State.modAll_scale (f : PressId → Press → Press) :
    (s.modAll f).scale = s.scale := rfl

@[simp] theorem State.modAll_history (f : PressId → Press → Press) :
    (s.modAll f).history = s.history := rfl

@[simp] theorem State.modAll_attention (f : PressId → Press → Press) :
    (s.modAll f).attention = s.attention := rfl

@[simp] theorem State.modAll_link (f : PressId → Press → Press) :
    (s.modAll f).link = s.link := rfl

@[simp] theorem State.modAll_pending (f : PressId → Press → Press) :
    (s.modAll f).pending = s.pending := rfl

/-! ## A press leaves the scale queue -/

@[simp] theorem State.leaveQueue_clock :
    (s.leaveQueue p).clock = s.clock := rfl

@[simp] theorem State.leaveQueue_scanPhase :
    (s.leaveQueue p).scanPhase = s.scanPhase := rfl

@[simp] theorem State.leaveQueue_loadPhase :
    (s.leaveQueue p).loadPhase = s.loadPhase := rfl

@[simp] theorem State.leaveQueue_cell :
    (s.leaveQueue p).cell = s.cell := rfl

@[simp] theorem State.leaveQueue_presses :
    (s.leaveQueue p).presses = s.presses := rfl

@[simp] theorem State.leaveQueue_recipes :
    (s.leaveQueue p).recipes = s.recipes := rfl

@[simp] theorem State.leaveQueue_heat :
    (s.leaveQueue p).heat = s.heat := rfl

@[simp] theorem State.leaveQueue_history :
    (s.leaveQueue p).history = s.history := rfl

@[simp] theorem State.leaveQueue_attention :
    (s.leaveQueue p).attention = s.attention := rfl

@[simp] theorem State.leaveQueue_link :
    (s.leaveQueue p).link = s.link := rfl

@[simp] theorem State.leaveQueue_pending :
    (s.leaveQueue p).pending = s.pending := rfl

@[simp] theorem State.leaveQueue_press :
    (s.leaveQueue p).press q = s.press q := rfl

@[simp] theorem State.leaveQueue_queue :
    (s.leaveQueue p).scale.queue = s.scale.queue.filter (· ≠ p) := rfl

/-! ## The end of an event -/

@[simp] theorem State.settle_clock :
    s.settle.clock = s.clock := rfl

@[simp] theorem State.settle_scanPhase :
    s.settle.scanPhase = s.scanPhase := rfl

@[simp] theorem State.settle_loadPhase :
    s.settle.loadPhase = s.loadPhase := rfl

@[simp] theorem State.settle_cell :
    s.settle.cell = s.cell := rfl

@[simp] theorem State.settle_presses :
    s.settle.presses = s.presses := rfl

@[simp] theorem State.settle_recipes :
    s.settle.recipes = s.recipes := rfl

@[simp] theorem State.settle_heat :
    s.settle.heat = s.heat := rfl

@[simp] theorem State.settle_scale :
    s.settle.scale = s.scale := rfl

@[simp] theorem State.settle_history :
    s.settle.history = s.history := rfl

@[simp] theorem State.settle_link :
    s.settle.link = s.link := rfl

@[simp] theorem State.settle_pending :
    s.settle.pending = s.pending := rfl

@[simp] theorem State.settle_press :
    s.settle.press p = s.press p := rfl

@[simp] theorem State.settle_recipeOf :
    s.settle.recipeOf p = s.recipeOf p := rfl

@[simp] theorem State.settle_condition (l : LevelId) :
    s.settle.condition l = s.condition l := rfl

@[simp] theorem State.settle_attention_lowest :
    s.settle.attention.lowest = s.attention.lowest := rfl

@[simp] theorem State.settle_attention_openNesting :
    s.settle.attention.openNesting = s.attention.openNesting := rfl

@[simp] theorem State.settle_attention_autoEnd :
    s.settle.attention.autoEnd = s.attention.autoEnd := rfl

@[simp] theorem State.settle_attention_rotateOnAuto :
    s.settle.attention.rotateOnAuto = s.attention.rotateOnAuto := rfl

/-! ## A reply is put in hand -/

@[simp] theorem State.putInHand_clock (e : Entry) (r : Reply) :
    (s.putInHand e r).clock = s.clock := rfl

@[simp] theorem State.putInHand_scanPhase (e : Entry) (r : Reply) :
    (s.putInHand e r).scanPhase = s.scanPhase := rfl

@[simp] theorem State.putInHand_loadPhase (e : Entry) (r : Reply) :
    (s.putInHand e r).loadPhase = s.loadPhase := rfl

@[simp] theorem State.putInHand_cell (e : Entry) (r : Reply) :
    (s.putInHand e r).cell = s.cell := rfl

@[simp] theorem State.putInHand_presses (e : Entry) (r : Reply) :
    (s.putInHand e r).presses = s.presses := rfl

@[simp] theorem State.putInHand_recipes (e : Entry) (r : Reply) :
    (s.putInHand e r).recipes = s.recipes := rfl

@[simp] theorem State.putInHand_heat (e : Entry) (r : Reply) :
    (s.putInHand e r).heat = s.heat := rfl

@[simp] theorem State.putInHand_scale (e : Entry) (r : Reply) :
    (s.putInHand e r).scale = s.scale := rfl

@[simp] theorem State.putInHand_history (e : Entry) (r : Reply) :
    (s.putInHand e r).history = s.history := rfl

@[simp] theorem State.putInHand_attention (e : Entry) (r : Reply) :
    (s.putInHand e r).attention = s.attention := rfl

@[simp] theorem State.putInHand_pending (e : Entry) (r : Reply) :
    (s.putInHand e r).pending = s.pending := rfl

@[simp] theorem State.putInHand_press (e : Entry) (r : Reply) :
    (s.putInHand e r).press p = s.press p := rfl

@[simp] theorem State.putInHand_condition (e : Entry) (r : Reply) (l : LevelId) :
    (s.putInHand e r).condition l = s.condition l := rfl

@[simp] theorem State.putInHand_recipeOf (e : Entry) (r : Reply) :
    (s.putInHand e r).recipeOf p = s.recipeOf p := rfl

/-! ## The receiver replaced -/

@[simp] theorem State.setReceiver_clock (r : Receiver) :
    (s.setReceiver r).clock = s.clock := rfl

@[simp] theorem State.setReceiver_scanPhase (r : Receiver) :
    (s.setReceiver r).scanPhase = s.scanPhase := rfl

@[simp] theorem State.setReceiver_loadPhase (r : Receiver) :
    (s.setReceiver r).loadPhase = s.loadPhase := rfl

@[simp] theorem State.setReceiver_cell (r : Receiver) :
    (s.setReceiver r).cell = s.cell := rfl

@[simp] theorem State.setReceiver_presses (r : Receiver) :
    (s.setReceiver r).presses = s.presses := rfl

@[simp] theorem State.setReceiver_recipes (r : Receiver) :
    (s.setReceiver r).recipes = s.recipes := rfl

@[simp] theorem State.setReceiver_heat (r : Receiver) :
    (s.setReceiver r).heat = s.heat := rfl

@[simp] theorem State.setReceiver_scale (r : Receiver) :
    (s.setReceiver r).scale = s.scale := rfl

@[simp] theorem State.setReceiver_history (r : Receiver) :
    (s.setReceiver r).history = s.history := rfl

@[simp] theorem State.setReceiver_attention (r : Receiver) :
    (s.setReceiver r).attention = s.attention := rfl

@[simp] theorem State.setReceiver_pending (r : Receiver) :
    (s.setReceiver r).pending = s.pending := rfl

@[simp] theorem State.setReceiver_link_fast (r : Receiver) :
    (s.setReceiver r).link.fast = s.link.fast := rfl

@[simp] theorem State.setReceiver_link_hand (r : Receiver) :
    (s.setReceiver r).link.hand = s.link.hand := rfl

@[simp] theorem State.setReceiver_link_slot (r : Receiver) :
    (s.setReceiver r).link.slot = s.link.slot := rfl

@[simp] theorem State.setReceiver_link_discarded (r : Receiver) :
    (s.setReceiver r).link.discarded = s.link.discarded := rfl

@[simp] theorem State.setReceiver_receiver (r : Receiver) :
    (s.setReceiver r).link.receiver = r := rfl

/-! ## The outputs of a press follow -/

@[simp] theorem Press.drive_state :
    x.drive.state = x.state := rfl

@[simp] theorem Press.drive_setup :
    x.drive.setup = x.setup := rfl

@[simp] theorem Press.drive_closed :
    x.drive.closed = x.closed := rfl

@[simp] theorem Press.drive_contact :
    x.drive.contact = x.contact := rfl

@[simp] theorem Press.drive_partClear :
    x.drive.partClear = x.partClear := rfl

@[simp] theorem Press.drive_captures :
    x.drive.captures = x.captures := rfl

@[simp] theorem Press.drive_stroke :
    x.drive.stroke = x.stroke := rfl

@[simp] theorem Press.drive_context :
    x.drive.context = x.context := rfl

@[simp] theorem Press.drive_changes :
    x.drive.changes = x.changes := rfl

@[simp] theorem Press.drive_forced :
    x.drive.forced = x.forced := rfl

@[simp] theorem Press.drive_openPermit :
    x.drive.openPermit = (x.state == .demouldDue) := rfl

@[simp] theorem Press.drive_ejector :
    x.drive.ejector = x.ejectorLevel := rfl

@[simp] theorem Press.drive_windowStart :
    x.drive.windowStart = x.windowStart := rfl

@[simp] theorem Press.drive_zones :
    x.drive.zones = x.zones := rfl

@[simp] theorem Press.drive_setpoints :
    x.drive.setpoints = x.setpoints := rfl

@[simp] theorem Press.drive_segment :
    x.drive.segment = x.segment := rfl

@[simp] theorem Press.drive_frozen :
    x.drive.frozen = x.frozen := rfl

@[simp] theorem Press.drive_ready :
    x.drive.ready = x.ready := rfl

@[simp] theorem Press.drive_run :
    x.drive.run = x.run := rfl

@[simp] theorem Press.drive_lastStep :
    x.drive.lastStep = x.lastStep := rfl

/-! ## A press enters a state -/

@[simp] theorem Press.enter_state (st : PressState) :
    (x.enter st).state = st := rfl

@[simp] theorem Press.enter_setup (st : PressState) :
    (x.enter st).setup = x.setup := rfl

@[simp] theorem Press.enter_closed (st : PressState) :
    (x.enter st).closed = x.closed := rfl

@[simp] theorem Press.enter_contact (st : PressState) :
    (x.enter st).contact = x.contact := rfl

@[simp] theorem Press.enter_partClear (st : PressState) :
    (x.enter st).partClear = x.partClear := rfl

@[simp] theorem Press.enter_captures (st : PressState) :
    (x.enter st).captures = x.captures := rfl

@[simp] theorem Press.enter_stroke (st : PressState) :
    (x.enter st).stroke = x.stroke := rfl

@[simp] theorem Press.enter_context (st : PressState) :
    (x.enter st).context = x.context := rfl

@[simp] theorem Press.enter_changes (st : PressState) :
    (x.enter st).changes = x.changes := rfl

@[simp] theorem Press.enter_forced (st : PressState) :
    (x.enter st).forced = (x.forced && st.allowsForce) := rfl

@[simp] theorem Press.enter_openPermit (st : PressState) :
    (x.enter st).openPermit = x.openPermit := rfl

@[simp] theorem Press.enter_ejector (st : PressState) :
    (x.enter st).ejector = x.ejector := rfl

@[simp] theorem Press.enter_windowStart (st : PressState) :
    (x.enter st).windowStart = x.windowStart := rfl

@[simp] theorem Press.enter_zones (st : PressState) :
    (x.enter st).zones = x.zones := rfl

@[simp] theorem Press.enter_setpoints (st : PressState) :
    (x.enter st).setpoints = x.setpoints := rfl

@[simp] theorem Press.enter_segment (st : PressState) :
    (x.enter st).segment = x.segment := rfl

@[simp] theorem Press.enter_frozen (st : PressState) :
    (x.enter st).frozen = x.frozen := rfl

@[simp] theorem Press.enter_ready (st : PressState) :
    (x.enter st).ready = x.ready := rfl

@[simp] theorem Press.enter_run (st : PressState) :
    (x.enter st).run = x.run := rfl

@[simp] theorem Press.enter_lastStep (st : PressState) :
    (x.enter st).lastStep = x.lastStep := rfl

/-! ## One zone, or every zone, of a press changed -/

@[simp] theorem Press.modZone_state (f : Zone → Zone) :
    (x.modZone z f).state = x.state := rfl

@[simp] theorem Press.modZone_setup (f : Zone → Zone) :
    (x.modZone z f).setup = x.setup := rfl

@[simp] theorem Press.modZone_closed (f : Zone → Zone) :
    (x.modZone z f).closed = x.closed := rfl

@[simp] theorem Press.modZone_contact (f : Zone → Zone) :
    (x.modZone z f).contact = x.contact := rfl

@[simp] theorem Press.modZone_partClear (f : Zone → Zone) :
    (x.modZone z f).partClear = x.partClear := rfl

@[simp] theorem Press.modZone_captures (f : Zone → Zone) :
    (x.modZone z f).captures = x.captures := rfl

@[simp] theorem Press.modZone_stroke (f : Zone → Zone) :
    (x.modZone z f).stroke = x.stroke := rfl

@[simp] theorem Press.modZone_context (f : Zone → Zone) :
    (x.modZone z f).context = x.context := rfl

@[simp] theorem Press.modZone_changes (f : Zone → Zone) :
    (x.modZone z f).changes = x.changes := rfl

@[simp] theorem Press.modZone_forced (f : Zone → Zone) :
    (x.modZone z f).forced = x.forced := rfl

@[simp] theorem Press.modZone_openPermit (f : Zone → Zone) :
    (x.modZone z f).openPermit = x.openPermit := rfl

@[simp] theorem Press.modZone_ejector (f : Zone → Zone) :
    (x.modZone z f).ejector = x.ejector := rfl

@[simp] theorem Press.modZone_windowStart (f : Zone → Zone) :
    (x.modZone z f).windowStart = x.windowStart := rfl

@[simp] theorem Press.modZone_setpoints (f : Zone → Zone) :
    (x.modZone z f).setpoints = x.setpoints := rfl

@[simp] theorem Press.modZone_segment (f : Zone → Zone) :
    (x.modZone z f).segment = x.segment := rfl

@[simp] theorem Press.modZone_frozen (f : Zone → Zone) :
    (x.modZone z f).frozen = x.frozen := rfl

@[simp] theorem Press.modZone_ready (f : Zone → Zone) :
    (x.modZone z f).ready = x.ready := rfl

@[simp] theorem Press.modZone_run (f : Zone → Zone) :
    (x.modZone z f).run = x.run := rfl

@[simp] theorem Press.modZone_lastStep (f : Zone → Zone) :
    (x.modZone z f).lastStep = x.lastStep := rfl

@[simp] theorem Press.modZones_state (f : ZoneId → Zone → Zone) :
    (x.modZones f).state = x.state := rfl

@[simp] theorem Press.modZones_setup (f : ZoneId → Zone → Zone) :
    (x.modZones f).setup = x.setup := rfl

@[simp] theorem Press.modZones_closed (f : ZoneId → Zone → Zone) :
    (x.modZones f).closed = x.closed := rfl

@[simp] theorem Press.modZones_contact (f : ZoneId → Zone → Zone) :
    (x.modZones f).contact = x.contact := rfl

@[simp] theorem Press.modZones_partClear (f : ZoneId → Zone → Zone) :
    (x.modZones f).partClear = x.partClear := rfl

@[simp] theorem Press.modZones_captures (f : ZoneId → Zone → Zone) :
    (x.modZones f).captures = x.captures := rfl

@[simp] theorem Press.modZones_stroke (f : ZoneId → Zone → Zone) :
    (x.modZones f).stroke = x.stroke := rfl

@[simp] theorem Press.modZones_context (f : ZoneId → Zone → Zone) :
    (x.modZones f).context = x.context := rfl

@[simp] theorem Press.modZones_changes (f : ZoneId → Zone → Zone) :
    (x.modZones f).changes = x.changes := rfl

@[simp] theorem Press.modZones_forced (f : ZoneId → Zone → Zone) :
    (x.modZones f).forced = x.forced := rfl

@[simp] theorem Press.modZones_openPermit (f : ZoneId → Zone → Zone) :
    (x.modZones f).openPermit = x.openPermit := rfl

@[simp] theorem Press.modZones_ejector (f : ZoneId → Zone → Zone) :
    (x.modZones f).ejector = x.ejector := rfl

@[simp] theorem Press.modZones_windowStart (f : ZoneId → Zone → Zone) :
    (x.modZones f).windowStart = x.windowStart := rfl

@[simp] theorem Press.modZones_setpoints (f : ZoneId → Zone → Zone) :
    (x.modZones f).setpoints = x.setpoints := rfl

@[simp] theorem Press.modZones_segment (f : ZoneId → Zone → Zone) :
    (x.modZones f).segment = x.segment := rfl

@[simp] theorem Press.modZones_frozen (f : ZoneId → Zone → Zone) :
    (x.modZones f).frozen = x.frozen := rfl

@[simp] theorem Press.modZones_ready (f : ZoneId → Zone → Zone) :
    (x.modZones f).ready = x.ready := rfl

@[simp] theorem Press.modZones_run (f : ZoneId → Zone → Zone) :
    (x.modZones f).run = x.run := rfl

@[simp] theorem Press.modZones_lastStep (f : ZoneId → Zone → Zone) :
    (x.modZones f).lastStep = x.lastStep := rfl

/-! ## A press is held off -/

@[simp] theorem Press.holdOffAll_state :
    x.holdOffAll.state = x.state := rfl

@[simp] theorem Press.holdOffAll_setup :
    x.holdOffAll.setup = x.setup := rfl

@[simp] theorem Press.holdOffAll_closed :
    x.holdOffAll.closed = x.closed := rfl

@[simp] theorem Press.holdOffAll_contact :
    x.holdOffAll.contact = x.contact := rfl

@[simp] theorem Press.holdOffAll_partClear :
    x.holdOffAll.partClear = x.partClear := rfl

@[simp] theorem Press.holdOffAll_captures :
    x.holdOffAll.captures = x.captures := rfl

@[simp] theorem Press.holdOffAll_stroke :
    x.holdOffAll.stroke = x.stroke := rfl

@[simp] theorem Press.holdOffAll_context :
    x.holdOffAll.context = x.context := rfl

@[simp] theorem Press.holdOffAll_changes :
    x.holdOffAll.changes = x.changes := rfl

@[simp] theorem Press.holdOffAll_forced :
    x.holdOffAll.forced = x.forced := rfl

@[simp] theorem Press.holdOffAll_openPermit :
    x.holdOffAll.openPermit = x.openPermit := rfl

@[simp] theorem Press.holdOffAll_ejector :
    x.holdOffAll.ejector = x.ejector := rfl

@[simp] theorem Press.holdOffAll_windowStart :
    x.holdOffAll.windowStart = x.windowStart := rfl

@[simp] theorem Press.holdOffAll_setpoints :
    x.holdOffAll.setpoints = x.setpoints := rfl

@[simp] theorem Press.holdOffAll_segment :
    x.holdOffAll.segment = x.segment := rfl

@[simp] theorem Press.holdOffAll_frozen :
    x.holdOffAll.frozen = x.frozen := rfl

@[simp] theorem Press.holdOffAll_ready :
    x.holdOffAll.ready = x.ready := rfl

@[simp] theorem Press.holdOffAll_run :
    x.holdOffAll.run = x.run := rfl

@[simp] theorem Press.holdOffAll_lastStep :
    x.holdOffAll.lastStep = x.lastStep := rfl

/-! ## A heater window starts -/

@[simp] theorem Press.startWindow_state (t : Clock) (n : Nat) :
    (x.startWindow t n).state = x.state := rfl

@[simp] theorem Press.startWindow_setup (t : Clock) (n : Nat) :
    (x.startWindow t n).setup = x.setup := rfl

@[simp] theorem Press.startWindow_closed (t : Clock) (n : Nat) :
    (x.startWindow t n).closed = x.closed := rfl

@[simp] theorem Press.startWindow_contact (t : Clock) (n : Nat) :
    (x.startWindow t n).contact = x.contact := rfl

@[simp] theorem Press.startWindow_partClear (t : Clock) (n : Nat) :
    (x.startWindow t n).partClear = x.partClear := rfl

@[simp] theorem Press.startWindow_captures (t : Clock) (n : Nat) :
    (x.startWindow t n).captures = x.captures := rfl

@[simp] theorem Press.startWindow_stroke (t : Clock) (n : Nat) :
    (x.startWindow t n).stroke = x.stroke := rfl

@[simp] theorem Press.startWindow_context (t : Clock) (n : Nat) :
    (x.startWindow t n).context = x.context := rfl

@[simp] theorem Press.startWindow_changes (t : Clock) (n : Nat) :
    (x.startWindow t n).changes = x.changes := rfl

@[simp] theorem Press.startWindow_forced (t : Clock) (n : Nat) :
    (x.startWindow t n).forced = x.forced := rfl

@[simp] theorem Press.startWindow_openPermit (t : Clock) (n : Nat) :
    (x.startWindow t n).openPermit = x.openPermit := rfl

@[simp] theorem Press.startWindow_ejector (t : Clock) (n : Nat) :
    (x.startWindow t n).ejector = x.ejector := rfl

@[simp] theorem Press.startWindow_windowStart (t : Clock) (n : Nat) :
    (x.startWindow t n).windowStart = some t := rfl

@[simp] theorem Press.startWindow_setpoints (t : Clock) (n : Nat) :
    (x.startWindow t n).setpoints = x.setpoints := rfl

@[simp] theorem Press.startWindow_segment (t : Clock) (n : Nat) :
    (x.startWindow t n).segment = x.segment := rfl

@[simp] theorem Press.startWindow_frozen (t : Clock) (n : Nat) :
    (x.startWindow t n).frozen = x.frozen := rfl

@[simp] theorem Press.startWindow_ready (t : Clock) (n : Nat) :
    (x.startWindow t n).ready = x.ready := rfl

@[simp] theorem Press.startWindow_run (t : Clock) (n : Nat) :
    (x.startWindow t n).run = x.run := rfl

@[simp] theorem Press.startWindow_lastStep (t : Clock) (n : Nat) :
    (x.startWindow t n).lastStep = x.lastStep := rfl

/-! ## Manual duties re-bounded -/

@[simp] theorem Press.reboundManual_state (n : Nat) :
    (x.reboundManual n).state = x.state := rfl

@[simp] theorem Press.reboundManual_setup (n : Nat) :
    (x.reboundManual n).setup = x.setup := rfl

@[simp] theorem Press.reboundManual_closed (n : Nat) :
    (x.reboundManual n).closed = x.closed := rfl

@[simp] theorem Press.reboundManual_contact (n : Nat) :
    (x.reboundManual n).contact = x.contact := rfl

@[simp] theorem Press.reboundManual_partClear (n : Nat) :
    (x.reboundManual n).partClear = x.partClear := rfl

@[simp] theorem Press.reboundManual_captures (n : Nat) :
    (x.reboundManual n).captures = x.captures := rfl

@[simp] theorem Press.reboundManual_stroke (n : Nat) :
    (x.reboundManual n).stroke = x.stroke := rfl

@[simp] theorem Press.reboundManual_context (n : Nat) :
    (x.reboundManual n).context = x.context := rfl

@[simp] theorem Press.reboundManual_changes (n : Nat) :
    (x.reboundManual n).changes = x.changes := rfl

@[simp] theorem Press.reboundManual_forced (n : Nat) :
    (x.reboundManual n).forced = x.forced := rfl

@[simp] theorem Press.reboundManual_openPermit (n : Nat) :
    (x.reboundManual n).openPermit = x.openPermit := rfl

@[simp] theorem Press.reboundManual_ejector (n : Nat) :
    (x.reboundManual n).ejector = x.ejector := rfl

@[simp] theorem Press.reboundManual_windowStart (n : Nat) :
    (x.reboundManual n).windowStart = x.windowStart := rfl

@[simp] theorem Press.reboundManual_setpoints (n : Nat) :
    (x.reboundManual n).setpoints = x.setpoints := rfl

@[simp] theorem Press.reboundManual_segment (n : Nat) :
    (x.reboundManual n).segment = x.segment := rfl

@[simp] theorem Press.reboundManual_frozen (n : Nat) :
    (x.reboundManual n).frozen = x.frozen := rfl

@[simp] theorem Press.reboundManual_ready (n : Nat) :
    (x.reboundManual n).ready = x.ready := rfl

@[simp] theorem Press.reboundManual_run (n : Nat) :
    (x.reboundManual n).run = x.run := rfl

@[simp] theorem Press.reboundManual_lastStep (n : Nat) :
    (x.reboundManual n).lastStep = x.lastStep := rfl

/-! ## The context changed -/

@[simp] theorem Press.onContext_state (f : CycleContext → CycleContext) :
    (x.onContext f).state = x.state := rfl

@[simp] theorem Press.onContext_setup (f : CycleContext → CycleContext) :
    (x.onContext f).setup = x.setup := rfl

@[simp] theorem Press.onContext_closed (f : CycleContext → CycleContext) :
    (x.onContext f).closed = x.closed := rfl

@[simp] theorem Press.onContext_contact (f : CycleContext → CycleContext) :
    (x.onContext f).contact = x.contact := rfl

@[simp] theorem Press.onContext_partClear (f : CycleContext → CycleContext) :
    (x.onContext f).partClear = x.partClear := rfl

@[simp] theorem Press.onContext_captures (f : CycleContext → CycleContext) :
    (x.onContext f).captures = x.captures := rfl

@[simp] theorem Press.onContext_stroke (f : CycleContext → CycleContext) :
    (x.onContext f).stroke = x.stroke := rfl

@[simp] theorem Press.onContext_context (f : CycleContext → CycleContext) :
    (x.onContext f).context = x.context.map f := rfl

@[simp] theorem Press.onContext_changes (f : CycleContext → CycleContext) :
    (x.onContext f).changes = x.changes := rfl

@[simp] theorem Press.onContext_forced (f : CycleContext → CycleContext) :
    (x.onContext f).forced = x.forced := rfl

@[simp] theorem Press.onContext_openPermit (f : CycleContext → CycleContext) :
    (x.onContext f).openPermit = x.openPermit := rfl

@[simp] theorem Press.onContext_ejector (f : CycleContext → CycleContext) :
    (x.onContext f).ejector = x.ejector := rfl

@[simp] theorem Press.onContext_windowStart (f : CycleContext → CycleContext) :
    (x.onContext f).windowStart = x.windowStart := rfl

@[simp] theorem Press.onContext_zones (f : CycleContext → CycleContext) :
    (x.onContext f).zones = x.zones := rfl

@[simp] theorem Press.onContext_setpoints (f : CycleContext → CycleContext) :
    (x.onContext f).setpoints = x.setpoints := rfl

@[simp] theorem Press.onContext_segment (f : CycleContext → CycleContext) :
    (x.onContext f).segment = x.segment := rfl

@[simp] theorem Press.onContext_frozen (f : CycleContext → CycleContext) :
    (x.onContext f).frozen = x.frozen := rfl

@[simp] theorem Press.onContext_ready (f : CycleContext → CycleContext) :
    (x.onContext f).ready = x.ready := rfl

@[simp] theorem Press.onContext_run (f : CycleContext → CycleContext) :
    (x.onContext f).run = x.run := rfl

@[simp] theorem Press.onContext_lastStep (f : CycleContext → CycleContext) :
    (x.onContext f).lastStep = x.lastStep := rfl

@[simp] theorem Press.addFlag_state (f : RecordFlags → RecordFlags) :
    (x.addFlag f).state = x.state := rfl

@[simp] theorem Press.addFlag_setup (f : RecordFlags → RecordFlags) :
    (x.addFlag f).setup = x.setup := rfl

@[simp] theorem Press.addFlag_closed (f : RecordFlags → RecordFlags) :
    (x.addFlag f).closed = x.closed := rfl

@[simp] theorem Press.addFlag_contact (f : RecordFlags → RecordFlags) :
    (x.addFlag f).contact = x.contact := rfl

@[simp] theorem Press.addFlag_partClear (f : RecordFlags → RecordFlags) :
    (x.addFlag f).partClear = x.partClear := rfl

@[simp] theorem Press.addFlag_captures (f : RecordFlags → RecordFlags) :
    (x.addFlag f).captures = x.captures := rfl

@[simp] theorem Press.addFlag_stroke (f : RecordFlags → RecordFlags) :
    (x.addFlag f).stroke = x.stroke := rfl

@[simp] theorem Press.addFlag_context (f : RecordFlags → RecordFlags) :
    (x.addFlag f).context = x.context.map (CycleContext.onFlags f) := rfl

@[simp] theorem Press.addFlag_changes (f : RecordFlags → RecordFlags) :
    (x.addFlag f).changes = x.changes := rfl

@[simp] theorem Press.addFlag_forced (f : RecordFlags → RecordFlags) :
    (x.addFlag f).forced = x.forced := rfl

@[simp] theorem Press.addFlag_openPermit (f : RecordFlags → RecordFlags) :
    (x.addFlag f).openPermit = x.openPermit := rfl

@[simp] theorem Press.addFlag_ejector (f : RecordFlags → RecordFlags) :
    (x.addFlag f).ejector = x.ejector := rfl

@[simp] theorem Press.addFlag_windowStart (f : RecordFlags → RecordFlags) :
    (x.addFlag f).windowStart = x.windowStart := rfl

@[simp] theorem Press.addFlag_zones (f : RecordFlags → RecordFlags) :
    (x.addFlag f).zones = x.zones := rfl

@[simp] theorem Press.addFlag_setpoints (f : RecordFlags → RecordFlags) :
    (x.addFlag f).setpoints = x.setpoints := rfl

@[simp] theorem Press.addFlag_segment (f : RecordFlags → RecordFlags) :
    (x.addFlag f).segment = x.segment := rfl

@[simp] theorem Press.addFlag_frozen (f : RecordFlags → RecordFlags) :
    (x.addFlag f).frozen = x.frozen := rfl

@[simp] theorem Press.addFlag_ready (f : RecordFlags → RecordFlags) :
    (x.addFlag f).ready = x.ready := rfl

@[simp] theorem Press.addFlag_run (f : RecordFlags → RecordFlags) :
    (x.addFlag f).run = x.run := rfl

@[simp] theorem Press.addFlag_lastStep (f : RecordFlags → RecordFlags) :
    (x.addFlag f).lastStep = x.lastStep := rfl

/-! ## The setpoints recomputed -/

@[simp] theorem Press.withSetpoints_state (r : Option Recipe) (h : HeatState) :
    (x.withSetpoints r h).state = x.state := rfl

@[simp] theorem Press.withSetpoints_setup (r : Option Recipe) (h : HeatState) :
    (x.withSetpoints r h).setup = x.setup := rfl

@[simp] theorem Press.withSetpoints_closed (r : Option Recipe) (h : HeatState) :
    (x.withSetpoints r h).closed = x.closed := rfl

@[simp] theorem Press.withSetpoints_contact (r : Option Recipe) (h : HeatState) :
    (x.withSetpoints r h).contact = x.contact := rfl

@[simp] theorem Press.withSetpoints_partClear (r : Option Recipe) (h : HeatState) :
    (x.withSetpoints r h).partClear = x.partClear := rfl

@[simp] theorem Press.withSetpoints_captures (r : Option Recipe) (h : HeatState) :
    (x.withSetpoints r h).captures = x.captures := rfl

@[simp] theorem Press.withSetpoints_stroke (r : Option Recipe) (h : HeatState) :
    (x.withSetpoints r h).stroke = x.stroke := rfl

@[simp] theorem Press.withSetpoints_context (r : Option Recipe) (h : HeatState) :
    (x.withSetpoints r h).context = x.context := rfl

@[simp] theorem Press.withSetpoints_changes (r : Option Recipe) (h : HeatState) :
    (x.withSetpoints r h).changes = x.changes := rfl

@[simp] theorem Press.withSetpoints_forced (r : Option Recipe) (h : HeatState) :
    (x.withSetpoints r h).forced = x.forced := rfl

@[simp] theorem Press.withSetpoints_openPermit (r : Option Recipe) (h : HeatState) :
    (x.withSetpoints r h).openPermit = x.openPermit := rfl

@[simp] theorem Press.withSetpoints_ejector (r : Option Recipe) (h : HeatState) :
    (x.withSetpoints r h).ejector = x.ejector := rfl

@[simp] theorem Press.withSetpoints_windowStart (r : Option Recipe) (h : HeatState) :
    (x.withSetpoints r h).windowStart = x.windowStart := rfl

@[simp] theorem Press.withSetpoints_zones (r : Option Recipe) (h : HeatState) :
    (x.withSetpoints r h).zones = x.zones := rfl

@[simp] theorem Press.withSetpoints_segment (r : Option Recipe) (h : HeatState) :
    (x.withSetpoints r h).segment = x.segment := rfl

@[simp] theorem Press.withSetpoints_frozen (r : Option Recipe) (h : HeatState) :
    (x.withSetpoints r h).frozen = x.frozen := rfl

@[simp] theorem Press.withSetpoints_ready (r : Option Recipe) (h : HeatState) :
    (x.withSetpoints r h).ready = x.ready := rfl

@[simp] theorem Press.withSetpoints_run (r : Option Recipe) (h : HeatState) :
    (x.withSetpoints r h).run = x.run := rfl

@[simp] theorem Press.withSetpoints_lastStep (r : Option Recipe) (h : HeatState) :
    (x.withSetpoints r h).lastStep = x.lastStep := rfl

/-! ## Readiness reset -/

@[simp] theorem Press.resetReadiness_state :
    x.resetReadiness.state = x.state := rfl

@[simp] theorem Press.resetReadiness_setup :
    x.resetReadiness.setup = x.setup := rfl

@[simp] theorem Press.resetReadiness_closed :
    x.resetReadiness.closed = x.closed := rfl

@[simp] theorem Press.resetReadiness_contact :
    x.resetReadiness.contact = x.contact := rfl

@[simp] theorem Press.resetReadiness_partClear :
    x.resetReadiness.partClear = x.partClear := rfl

@[simp] theorem Press.resetReadiness_captures :
    x.resetReadiness.captures = x.captures := rfl

@[simp] theorem Press.resetReadiness_stroke :
    x.resetReadiness.stroke = x.stroke := rfl

@[simp] theorem Press.resetReadiness_context :
    x.resetReadiness.context = x.context := rfl

@[simp] theorem Press.resetReadiness_changes :
    x.resetReadiness.changes = x.changes := rfl

@[simp] theorem Press.resetReadiness_forced :
    x.resetReadiness.forced = x.forced := rfl

@[simp] theorem Press.resetReadiness_openPermit :
    x.resetReadiness.openPermit = x.openPermit := rfl

@[simp] theorem Press.resetReadiness_ejector :
    x.resetReadiness.ejector = x.ejector := rfl

@[simp] theorem Press.resetReadiness_windowStart :
    x.resetReadiness.windowStart = x.windowStart := rfl

@[simp] theorem Press.resetReadiness_zones :
    x.resetReadiness.zones = x.zones := rfl

@[simp] theorem Press.resetReadiness_setpoints :
    x.resetReadiness.setpoints = x.setpoints := rfl

@[simp] theorem Press.resetReadiness_segment :
    x.resetReadiness.segment = x.segment := rfl

@[simp] theorem Press.resetReadiness_frozen :
    x.resetReadiness.frozen = x.frozen := rfl

@[simp] theorem Press.resetReadiness_ready :
    x.resetReadiness.ready = false := rfl

@[simp] theorem Press.resetReadiness_run :
    x.resetReadiness.run = 0 := rfl

@[simp] theorem Press.resetReadiness_lastStep :
    x.resetReadiness.lastStep = x.lastStep := rfl

/-! ## Zones -/

@[simp] theorem Zone.holdOff_sensor (y : Zone) :
    y.holdOff.sensor = y.sensor := rfl

@[simp] theorem Zone.holdOff_badCount (y : Zone) :
    y.holdOff.badCount = y.badCount := rfl

@[simp] theorem Zone.holdOff_goodCount (y : Zone) :
    y.holdOff.goodCount = y.goodCount := rfl

@[simp] theorem Zone.holdOff_lastSample (y : Zone) :
    y.holdOff.lastSample = y.lastSample := rfl

@[simp] theorem Zone.holdOff_lastGood (y : Zone) :
    y.holdOff.lastGood = y.lastGood := rfl

@[simp] theorem Zone.holdOff_mode (y : Zone) :
    y.holdOff.mode = y.mode := rfl

@[simp] theorem Zone.holdOff_manual (y : Zone) :
    y.holdOff.manual = y.manual := rfl

@[simp] theorem Zone.holdOff_integral (y : Zone) :
    y.holdOff.integral = 0 := rfl

@[simp] theorem Zone.holdOff_pending (y : Zone) :
    y.holdOff.pending = 0 := rfl

@[simp] theorem Zone.holdOff_applied (y : Zone) :
    y.holdOff.applied = 0 := rfl

@[simp] theorem Zone.holdOff_heater (y : Zone) :
    y.holdOff.heater = false := rfl

/-! ## A millisecond later -/

/-- The tick moves the clock and the phases as the statements put it. -/
theorem State.advance_eq : s.advance = s.millisecondLater := rfl

@[simp] theorem State.millisecondLater_cell :
    s.millisecondLater.cell = s.cell := rfl

@[simp] theorem State.millisecondLater_presses :
    s.millisecondLater.presses = s.presses := rfl

@[simp] theorem State.millisecondLater_recipes :
    s.millisecondLater.recipes = s.recipes := rfl

@[simp] theorem State.millisecondLater_heat :
    s.millisecondLater.heat = s.heat := rfl

@[simp] theorem State.millisecondLater_scale :
    s.millisecondLater.scale = s.scale := rfl

@[simp] theorem State.millisecondLater_history :
    s.millisecondLater.history = s.history := rfl

@[simp] theorem State.millisecondLater_attention :
    s.millisecondLater.attention = s.attention := rfl

@[simp] theorem State.millisecondLater_link :
    s.millisecondLater.link = s.link := rfl

@[simp] theorem State.millisecondLater_pending :
    s.millisecondLater.pending = s.pending := rfl

@[simp] theorem State.millisecondLater_clock :
    s.millisecondLater.clock = s.clock + 1 := rfl

@[simp] theorem State.millisecondLater_scanPhase :
    s.millisecondLater.scanPhase = s.scanPhase + 1 := rfl

@[simp] theorem State.millisecondLater_loadPhase :
    s.millisecondLater.loadPhase = if s.loadPhase = 20 then 1 else s.loadPhase + 1 := rfl

@[simp] theorem State.millisecondLater_press :
    s.millisecondLater.press p = s.press p := rfl

end Sys2Proof.Machine
end

