-- ==== Sys2Proof/Laws/Ops.lean ====
section
/-! SUPPORT. For each shared operation, one lemma that says once everything it can do, for proofs to cite instead of
unfolding it. -/

namespace Sys2Proof.Machine

/-! ## Reading one press, one zone -/

/-- The press that is changed takes the change, its outputs following. -/
@[simp] theorem State.modPress_press_self (s : State) (p : PressId) (f : Press → Press) :
    (s.modPress p f).press p = (f (s.press p)).drive := by
  simp [State.modPress, State.press]

/-- The other presses are as they were. -/
theorem State.modPress_press_ne (s : State) (p q : PressId) (f : Press → Press) (h : q ≠ p) :
    (s.modPress p f).press q = s.press q := by
  have : p.val ≠ q.val := fun e => h (Fin.ext e.symm)
  simp [State.modPress, State.press, this]

/-- A change of one press, read at any press. -/
theorem State.modPress_press (s : State) (p q : PressId) (f : Press → Press) :
    (s.modPress p f).press q = if q = p then (f (s.press p)).drive else s.press q := by
  by_cases h : q = p
  · subst h; simp
  · simp [h, State.modPress_press_ne s p q f h]

/-- A change of every press, read at one. -/
@[simp] theorem State.modAll_press (s : State) (f : PressId → Press → Press) (p : PressId) :
    (s.modAll f).press p = (f p (s.press p)).drive := by
  simp [State.modAll, State.press]

/-- The zone that is changed takes the change. -/
@[simp] theorem Press.modZone_zone_self (x : Press) (z : ZoneId) (f : Zone → Zone) :
    (x.modZone z f).zones[z] = f x.zones[z] := by
  simp [Press.modZone]

/-- The other zones are as they were. -/
theorem Press.modZone_zone_ne (x : Press) (z w : ZoneId) (f : Zone → Zone) (h : w ≠ z) :
    (x.modZone z f).zones[w] = x.zones[w] := by
  have : z.val ≠ w.val := fun e => h (Fin.ext e.symm)
  simp [Press.modZone, this]

/-- A change of every zone, read at one. -/
@[simp] theorem Press.modZones_zone (x : Press) (f : ZoneId → Zone → Zone) (z : ZoneId) :
    (x.modZones f).zones[z] = f z x.zones[z] := by
  simp [Press.modZones]

/-- The setpoint of a zone after a recomputation (R68). -/
theorem Press.withSetpoints_setpoint (x : Press) (r : Option Recipe) (h : HeatState) (z : ZoneId) :
    (x.withSetpoints r h).setpoints[z] =
      match r with | some r => effectiveSetpoint r h x.segment z | none => 0 := by
  cases r <;> simp [Press.withSetpoints]

/-- Driving a press again changes nothing. -/
@[simp] theorem Press.drive_drive (x : Press) : x.drive.drive = x.drive := rfl

/-! ## Which recipe a press reads -/

/-- The recipe of a press depends on its setup and on the table alone. -/
theorem State.recipeOf_congr {s t : State} {p : PressId} (hs : (t.press p).setup = (s.press p).setup)
    (hr : t.recipes = s.recipes) : t.recipeOf p = s.recipeOf p := by
  simp [State.recipeOf, hs, hr]

/-- A change of one press that keeps its setup keeps every press's recipe. -/
theorem State.recipeOf_modPress (s : State) (p q : PressId) (f : Press → Press)
    (hf : (f (s.press p)).setup = (s.press p).setup) : (s.modPress p f).recipeOf q = s.recipeOf q := by
  refine State.recipeOf_congr ?_ rfl
  rw [State.modPress_press]
  by_cases h : q = p
  · subst h; simpa using hf
  · simp [h]

/-! ## Conditions and ATTN -/

/-- The conditions depend on the presses, the lapse flag, the scale and the history queue alone (R141). -/
theorem State.condition_congr {s t : State} (l : LevelId) (hp : t.presses = s.presses) (hh : t.heat.lapse = s.heat.lapse)
    (hs : t.scale = s.scale) (hr : t.history.nearFull = s.history.nearFull) : t.condition l = s.condition l := by
  simp [State.condition, State.press, hp, hh, hs, hr]

/-- ATTN after it is judged: asserted exactly while a level is presentable (R152). -/
theorem Attention.judge_attn (a : Attention) : a.judge.attn = true ↔ ∃ l, a.judge.presentable l = true := by
  have h : ∀ l, a.judge.presentable l = a.presentable l := fun l => rfl
  simp only [h]
  simp [Attention.judge, List.any_eq_true]

/-- A level hands on its condition: the value it holds afterwards is the one handed on. -/
@[simp] theorem Level.handOn_condition (c : Bool) (l : Level) : (l.handOn c).condition = c := by
  cases l with
  | mk condition edge request armed masked inService =>
    cases edge <;> cases condition <;> cases c <;> rfl

/-- A level keeps its trigger mode, mask and membership when its condition is handed on. -/
@[simp] theorem Level.handOn_edge (c : Bool) (l : Level) : (l.handOn c).edge = l.edge := by
  cases l with
  | mk condition edge request armed masked inService =>
    cases edge <;> cases condition <;> cases c <;> rfl

@[simp] theorem Level.handOn_masked (c : Bool) (l : Level) : (l.handOn c).masked = l.masked := by
  cases l with
  | mk condition edge request armed masked inService =>
    cases edge <;> cases condition <;> cases c <;> rfl

@[simp] theorem Level.handOn_inService (c : Bool) (l : Level) : (l.handOn c).inService = l.inService := by
  cases l with
  | mk condition edge request armed masked inService =>
    cases edge <;> cases condition <;> cases c <;> rfl

/-- The levels after the end of an event. -/
theorem State.settle_level (s : State) (l : LevelId) :
    s.settle.attention.levels[l] = s.attention.levels[l].handOn (s.condition l) := by
  simp [State.settle, Attention.judge]

/-- The end of an event hands on what the event left, when the event itself did not touch the controller. -/
theorem State.settle_handsOn {s t : State} (h : t.attention = s.attention) : HandsOn s t.settle := by
  refine ⟨fun l => ?_, ?_, ?_, ?_, ?_, ?_⟩
  · rw [State.settle_level, h]; rfl
  · simp [h]
  · simp [h]
  · simp [h]
  · simp [h]
  · exact Attention.judge_attn _

/-! ## Requests and entries -/

/-- A number below 256 comes back from its byte. -/
theorem numberByte_toNat (n : Nat) (h : n < 256) : (numberByte n).toNat = n := by
  simp [numberByte]; omega

/-- The press a number byte names. -/
@[simp] theorem pressOf_numberByte (p : PressId) : pressOf (numberByte p.val) = some p := by
  have := numberByte_toNat p.val (by omega)
  simp [pressOf, this]

/-- The zone a number byte names. -/
@[simp] theorem zoneOf_numberByte (z : ZoneId) : zoneOf (numberByte z.val) = some z := by
  have := numberByte_toNat z.val (by omega)
  simp [zoneOf, this]

/-- The slot a number byte names. -/
@[simp] theorem slotOf_numberByte (n : SlotId) : slotOf (numberByte n.val) = some n := by
  have := numberByte_toNat n.val (by omega)
  simp [slotOf, this]

/-- The level a number byte names. -/
@[simp] theorem levelOf_numberByte (l : LevelId) : levelOf (numberByte l.val) = some l := by
  have := numberByte_toNat l.val (by omega)
  simp [levelOf, this]

/-- A request that names a press acts on that press. -/
@[simp] theorem withPress_numberByte (p : PressId) (s : State) (act : PressId → State × Reply) :
    withPress (numberByte p.val) s act = act p := by
  simp [withPress]

/-- A request that names no press is refused with RANGE. -/
theorem withPress_range (b : Byte) (s : State) (act : PressId → State × Reply) (h : 4 ≤ b.toNat) :
    withPress b s act = (s, rangeReply 1) := by
  have : ¬ b.toNat < 4 := by omega
  simp [withPress, pressOf, this]

/-- A request with nothing in hand is taken at once (R171). -/
theorem State.request_of_free {s : State} {c : Instr} (act : State → State × Reply) (h : s.link.hand = none) :
    s.request c act = (act s).1.putInHand (requestEntry c) (act s).2 := by
  simp [State.request, State.arrive, State.takeEntry, h]

/-- The bytes of a frame are the payload's and five more (10.2). -/
@[simp] theorem frame_length (kind : Byte) (payload : List Byte) : (frame kind payload).length = payload.length + 5 := by
  simp [frame, le16]

/-- A reply put in hand, from a state whose link the request did not touch, is the answer of R171. -/
theorem State.putInHand_answers {s t : State} (c : Instr) (r : Reply) (hl : t.link = s.link) :
    Answers c r s (t.putInHand (requestEntry c) r) := by
  exact ⟨_, by simp [handOf, State.putInHand, hl]; rfl⟩

/-- A request that only answers. -/
theorem State.putInHand_onlyAnswers (s : State) (c : Instr) (r : Reply) :
    OnlyAnswers c r s (s.putInHand (requestEntry c) r) := by
  refine ⟨⟨rfl, fun b hb => ?_⟩, State.putInHand_answers c r rfl⟩
  cases b <;> simp_all [State.keeps]

/-! ## Admission, withdrawal and commit -/

/-- The admission test, as the statements put it (R78). -/
theorem State.admits_iff (s : State) (p : PressId) : s.admits p = true ↔ Admissible s p := by
  unfold State.admits Admissible
  cases h : (s.press p).setup with
  | none => simp
  | some u => simp

/-- The admission test depends on the heat state, the setup and the readiness alone. -/
theorem State.admits_congr {s t : State} {p : PressId} (hh : t.heat.state = s.heat.state)
    (hs : (t.press p).setup = (s.press p).setup) (hr : (t.press p).ready = (s.press p).ready) :
    t.admits p = s.admits p := by
  simp [State.admits, hh, hs, hr]

/-- An evaluation of admission: a press in HEATING that passes the test enters CHARGE_WAIT and joins the tail of the scale
queue; otherwise nothing changes (R7, R78). -/
theorem State.evaluateAdmission_spec (s : State) (p : PressId) :
    ((s.press p).state = .heating ∧ s.admits p = true ∧
      s.evaluateAdmission p =
        { s.modPress p (Press.enter .chargeWait) with scale := { s.scale with queue := s.scale.queue ++ [p] } }) ∨
    (¬((s.press p).state = .heating ∧ s.admits p = true) ∧ s.evaluateAdmission p = s) := by
  unfold State.evaluateAdmission
  by_cases h : (s.press p).state = .heating ∧ s.admits p = true
  · left; exact ⟨h.1, h.2, by rw [if_pos h]; rfl⟩
  · right; exact ⟨h, by rw [if_neg h]⟩

/-- A heat state that stays as it was has no consequence (R66). -/
@[simp] theorem State.changeHeat_same (s : State) : s.changeHeat s.heat.state = s := by
  simp [State.changeHeat]

/-- An offer of a context: taken with room, held otherwise; nothing without a context (R128). -/
theorem State.offerCommit_spec (s : State) (p : PressId) :
    ((s.press p).context = none ∧ s.offerCommit p = s) ∨
    (∃ c, (s.press p).context = some c ∧ s.history.records.length < 64 ∧ s.offerCommit p = s.takeRecord p c) ∨
    (∃ c, (s.press p).context = some c ∧ 64 ≤ s.history.records.length ∧
      s.offerCommit p =
        { s.modPress p (Press.enter .commitHeld) with
          history := { s.history with waitList := s.history.waitList ++ [p] } }) := by
  unfold State.offerCommit
  cases h : (s.press p).context with
  | none => exact .inl ⟨rfl, rfl⟩
  | some c =>
    by_cases hl : s.history.records.length < Config.historyCapacity
    · exact .inr (.inl ⟨c, rfl, hl, by simp [hl]⟩)
    · exact .inr (.inr ⟨c, rfl, Nat.le_of_not_lt hl, by simp only [hl, if_false]; rfl⟩)

/-- A press whose pins follow R3 is as driving it leaves it. -/
theorem PinLaw.drive_eq {s : State} (h : PinLaw s) (p : PressId) : (s.press p).drive = s.press p := by
  obtain ⟨h1, h2, -⟩ := h p
  have e1 : (s.press p).openPermit = ((s.press p).state == .demouldDue) := by
    rw [Bool.eq_iff_iff, h1]; simp
  have e2 : (s.press p).ejector = (s.press p).ejectorLevel := by
    rw [Bool.eq_iff_iff, h2]
    rcases hk : (s.press p).stroke with _ | _ | _ <;> cases hs : (s.press p).state <;>
      simp [Press.ejectorLevel, Press.inPulse, PressState.allowsForce, hs, hk]
  cases hx : s.press p
  simp [hx, Press.drive] at e1 e2 ⊢
  exact ⟨e1.symm, e2.symm⟩

/-- A press that enters HEATING: it stands in HEATING, and in CHARGE_WAIT at the tail of the scale queue when the test of
R78 passes (R6, R7). -/
theorem State.enterHeating_spec (s : State) (p : PressId) :
    (s.admits p = true ∧
      s.enterHeating p =
        { (s.modPress p (Press.enter .heating)).modPress p (Press.enter .chargeWait) with
          scale := { s.scale with queue := s.scale.queue ++ [p] } }) ∨
    (s.admits p = false ∧ s.enterHeating p = s.modPress p (Press.enter .heating)) := by
  have ha : (s.modPress p (Press.enter .heating)).admits p = s.admits p :=
    State.admits_congr rfl (by simp) (by simp)
  rcases State.evaluateAdmission_spec (s.modPress p (Press.enter .heating)) p with ⟨-, h, e⟩ | ⟨h, e⟩
  · exact .inl ⟨ha ▸ h, e⟩
  · refine .inr ⟨?_, e⟩
    rw [ha] at h
    simpa using h

/-- A withdrawal: the press is off the scale queue and enters HEATING (R8). -/
theorem State.withdraw_spec (s : State) (p : PressId) :
    s.withdraw p =
      ({ s with scale := { s.scale with queue := s.scale.queue.filter (· ≠ p) } } : State).enterHeating p := rfl

/-- A commit that is taken: the record at the tail of the history queue, the context gone, the press entering HEATING
(R21, R128). -/
theorem State.takeRecord_spec (s : State) (p : PressId) (c : CycleContext) :
    s.takeRecord p c =
      (({ s with history := { s.history with records := s.history.records ++ [c.record] } } : State).modPress p
        fun x => { x with context := none }).enterHeating p := rfl

/-- An entry that arrives: taken with nothing in hand, waiting in the empty slot, or discarded and counted (R171). -/
theorem State.arrive_spec (s : State) (e : Entry) (act : State → State × Reply) :
    (s.link.hand = none ∧ s.arrive e act = (act s).1.putInHand e (act s).2) ∨
    (s.link.hand ≠ none ∧ s.link.slot = none ∧ s.arrive e act = { s with link := { s.link with slot := some e } }) ∨
    (s.link.hand ≠ none ∧ s.link.slot ≠ none ∧
      s.arrive e act = { s with link := { s.link with discarded := min 65535 (s.link.discarded + 1) } }) := by
  unfold State.arrive
  cases hh : s.link.hand with
  | none => exact .inl ⟨rfl, rfl⟩
  | some h =>
    cases hs : s.link.slot with
    | none => exact .inr (.inl ⟨by simp, rfl, rfl⟩)
    | some e' => exact .inr (.inr ⟨by simp, by simp, rfl⟩)

/-! ## Frames -/

/-- A reply put in hand changes the link alone. -/
theorem OnlyChanges.putInHand {blocks : List Block} {s t : State} (e : Entry) (r : Reply) (h : OnlyChanges blocks s t)
    (hm : Block.link ∈ blocks) : OnlyChanges blocks s (t.putInHand e r) := by
  refine ⟨h.1, fun b hb => ?_⟩
  have := h.2 b hb
  cases b <;> simp_all [State.keeps]

/-- The end of an event changes the attention controller alone. -/
theorem OnlyChanges.settle {blocks : List Block} {s t : State} (h : OnlyChanges blocks s t)
    (hm : Block.attention ∈ blocks) : OnlyChanges blocks s t.settle := by
  refine ⟨h.1, fun b hb => ?_⟩
  have := h.2 b hb
  cases b <;> simp_all [State.keeps]

/-! ## The priority ring -/

/-- Every level stands in the ring. -/
theorem ringOrder_mem : ∀ lowest l : LevelId, l ∈ ringOrder lowest := by decide

/-- The ring lists the levels in the order of their ranks (R149). -/
theorem ringOrder_rank : ∀ lowest : LevelId, (ringOrder lowest).map (rank lowest) = List.range 12 := by decide

end Sys2Proof.Machine
end

