-- ==== Sys2Proof/Tests/Slice0.lean ====
section
/-! SUPPORT. The model's own tests: the ill-formed term of WellFormed, words and frames written out from the spec's
layouts, at most two small steps of each command against values of the manual, and for each obligation with hypotheses a
state and operands that meet them. -/

namespace Sys2Proof.Tests

open Sys2Proof.Machine

/-! ## Helpers -/

/-- The state after a command. -/
def after (c : Instr) (s : State) : State :=
  match exec c s with
  | .next t => t
  | .fault _ => s
  | .refused _ => s

/-- The payload of the reply in hand. -/
def payload (s : State) : List Byte :=
  match s.link.hand with
  | some h => (h.reply.drop 3).take (h.reply.length - 5)
  | none => []

/-- The recipe of the worked example of 2.8, as it is sent. -/
def wire : RecipeWire where
  baseTemp := 1400
  spLimit := 1600
  standbyTemp := 1500
  zoneTrim := #v[0, 0, 0, 0, 0, 0, BitVec.ofInt 16 (-260), 0]
  durations := #v[30, 40, 0, 0, 0, 0, 0, 0]
  offsets := #v[40, 0x826C, 0, 0, 0, 0, 0, 0]
  kp := 40
  ki := 4
  maxDuty := 1200
  heaterWindow := 2000
  readyBand := 60
  dropBand := 120
  readyQualify := 30
  dropQualify := 10
  tRef := 1450
  doubling := 100
  cureTarget := 1440
  minClose := 60
  maxClose := 120
  chargeMin := 12000
  chargeMax := 12500
  ejectDelay := 400
  ejectWidth := 800
  rounding := 4

/-- A recipe record with every checked field at a bound of its range (R28). -/
def edgeWire : RecipeWire :=
  { wire with
      baseTemp := 500, spLimit := 500, standbyTemp := 501, zoneTrim := Vector.replicate 8 200,
      durations := Vector.replicate 8 3600, offsets := Vector.replicate 8 0x81F4, maxDuty := 1001, heaterWindow := 10000,
      readyBand := 200, dropBand := 500, readyQualify := 600, dropQualify := 1, tRef := 3000, doubling := 20,
      cureTarget := 16, minClose := 3600, maxClose := 3600, chargeMin := 8388607, chargeMax := 8388607,
      ejectDelay := 5000, ejectWidth := 50, rounding := 4 }

/-- A stored recipe, its readiness runs short. -/
def recipe : Recipe where
  baseTemp := 1500
  spLimit := 1600
  standbyTemp := 1000
  zoneTrim := Vector.replicate 8 0
  durations := #v[30, 40, 0, 0, 0, 0, 0, 0]
  offsets := #v[40, -60, 0, 0, 0, 0, 0, 0]
  kp := 40
  ki := 4
  maxDuty := 800
  heaterWindow := 2000
  readyBand := 60
  dropBand := 120
  readyQualify := 1
  dropQualify := 1
  tRef := 1450
  doubling := 100
  cureTarget := 1440
  minClose := 60
  maxClose := 120
  chargeMin := 12000
  chargeMax := 12500
  ejectDelay := 400
  ejectWidth := 800
  rounding := 0

/-- A panel of serial 1 with no times yet. -/
def panel : PanelRecord := { serial := 1, press := 0, recipe := 0, mass := 12245, weighTime := 10 }

/-- The panel after its press has opened. -/
def openPanel : PanelRecord :=
  { panel with closeTime := some 20, openTime := some 30, accumulatorAtOpen := some 46341, stepCountAtOpen := some 1 }

/-- The context that a press in a state holds. -/
def contextIn : PressState → Option CycleContext
  | .offline | .heating | .chargeWait => none
  | .chargeReady => some { panel := panel }
  | .curing | .demouldDue =>
    some { panel := { panel with closeTime := some 20 }, accumulator := some 46341, stepCount := some 1 }
  | .ejecting | .ejectFault | .unloadWait => some { panel := openPanel, accumulator := some 46341, stepCount := some 1 }
  | .commitHeld =>
    some { panel := { openPanel with commitTime := some 40 }, accumulator := some 46341, stepCount := some 1 }

/-- A press in a state, with slot 0 in its setup, all zones active, and the gating MONITOR. -/
def pressIn (st : PressState) : Press :=
  { Press.reset with
      state := st
      setup := some { slot := 0, zones := 0xFF, gating := .monitor }
      context := contextIn st
      stroke := if st = .ejecting then some (.pulse 1000 200 false) else none
      windowStart := if st = .offline then none else some 0
      openPermit := decide (st = .demouldDue)
      ejector := decide (st = .ejecting) }

/-- A part record of a serial. -/
def record (serial : Nat) : PartRecord := { panel := { openPanel with serial := serial }, grade := .good }

/-- A full history queue: serial 2 at its head, 64 records. -/
def fullQueue : List PartRecord := record 2 :: List.replicate 63 (record 3)

/-- A cell with press 0 in a state, slot 0 VALID and heat granted at clock 100. -/
def cellIn (st : PressState) : State :=
  { State.reset with
      clock := 100
      presses := State.reset.presses.set 0 (pressIn st)
      recipes := State.reset.recipes.set 0 (some recipe)
      heat := { state := .run, remaining := 6000, lapse := false, nextStep := 200 }
      scale := { State.reset.scale with queue := if st = .chargeWait then [0] else [] }
      history :=
        { records := if st = .commitHeld then fullQueue else []
          waitList := if st = .commitHeld then [0] else []
          nextSerial := 4
          exhausted := false } }

/-- The same cell with press 0 changed. -/
def cellWith (st : PressState) (f : Press → Press) : State :=
  { cellIn st with presses := (cellIn st).presses.set 0 (f (pressIn st)) }

/-- A cell in a heat state. -/
def heatIn (h : HeatState) : State :=
  { cellIn .heating with
      heat := { state := h, remaining := if h = .run then 1 else 0, lapse := true, nextStep := 200 } }

/-- Something in hand on the link. -/
def inHand : InHand := { entry := .linkError .badCheck, reply := [], sentAt := 5 }

/-- A cell with the link in a state of its queue. -/
def linkWith (hand : Option InHand) (slot : Option Entry) (discarded : Nat) : State :=
  { State.reset with link := { State.reset.link with hand := hand, slot := slot, discarded := discarded } }

/-- A cell with its receiver in a state. -/
def receiverIn (st : RxState) (body check : List Byte) : State :=
  { State.reset with link := { State.reset.link with
      receiver := { state := st, length := 2, body := body, check := check, gapFrom := some 7 } } }

/-- A scale in a state, one sample short of a stable run at 12,245 counts with gain 65,536. -/
def scaleIn (st : ScaleState) (count : Nat) : State :=
  { cellIn .chargeWait with scale := { (cellIn .chargeWait).scale with
      state := st, anchor := some 12245, count := count
      held := if st = .removeWait then some
        { verdict := .accept, mass := 12245, time := 90, press := some 1, serial := some 3, tareStale := false } else none
      faultGross := if st = .tareFault then some 600 else none } }

/-! ## WellFormed and the layouts -/

/-- R42: 5000 t°C is the last value of the sensor range. -/
theorem test_wellFormed_refuses_5001 : Instr.wellFormed (.zoneSample 0 0 (.temperature 5001)) = false := by decide

/-- R42: −501 t°C lies below the sensor range. -/
theorem test_wellFormed_refuses_minus_501 : Instr.wellFormed (.zoneSample 0 0 (.temperature (-501))) = false := by decide

/-- R42: both bounds are in it. -/
theorem test_wellFormed_takes_bounds :
    Instr.wellFormed (.zoneSample 0 0 (.temperature 5000)) = true ∧
    Instr.wellFormed (.zoneSample 0 0 (.temperature (-500))) = true := by decide

/-- R169: the check over the nine bytes 31..39. -/
theorem test_check_of_nine_digits :
    frameCheck [0x31, 0x32, 0x33, 0x34, 0x35, 0x36, 0x37, 0x38, 0x39] = 0x29B1 := by decide +kernel

/-- The opcode table gives no row any bits. -/
theorem test_no_word_spells_a_command : decodeTableWord 8 0xA5 = none := by decide

/-- R184: PRESS_SETUP of press 2, slot 3, zones 0 to 3, MONITOR. -/
theorem test_decode_press_setup :
    decodeRequest 0x10 [2, 3, 0x0F, 1, 0, 0, 0, 0, 0] = .request (.pressSetup 2 3 0x0F 1) := by decide

/-- R184: ZONE_MODE of press 1, zone 3, MANUAL, duty 900, low byte first. -/
theorem test_decode_zone_mode :
    decodeRequest 0x28 [1, 3, 1, 0x84, 0x03, 0, 0, 0, 0] = .request (.zoneMode 1 3 1 900) := by decide

/-- R184: HISTORY_ACK of serial 418. -/
theorem test_decode_history_ack :
    decodeRequest 0x4A [0xA2, 0x01, 0, 0, 0, 0, 0, 0, 0] = .request (.historyAck 418) := by decide

/-- R184: SCALE_SET of 6.9, in its own 23 bytes. -/
theorem test_decode_scale_set :
    decodeRequest 0x40
      [0xE0, 0x2E, 0, 0, 0x8F, 0x02, 0, 0, 5, 0, 10, 200, 0, 0, 0, 50, 0, 0, 0, 0xF4, 0x01, 0, 0] =
      .request (.scaleSet 12000 655 5 10 200 50 500) := by decide

/-- R175: a defined kind with another payload length, and a kind that is not defined. -/
theorem test_decode_refusals :
    decodeRequest 0x50 [0] = .badLength ∧ decodeRequest 0x05 [0, 0, 0, 0, 0, 0, 0, 0, 0] = .unknownKind := by decide

/-- 2.8: offset 2 is −620 in sign and magnitude. -/
theorem test_offset_sign_and_magnitude : offsetValue 0x826C = -620 ∧ offsetWord (-620) = 0x826C := by decide

/-- Every byte of a reply's length stands in a row of a table. -/
def covers (table : Layout) (length : Nat) : Bool :=
  (List.range length).all fun i => table.any fun row => decide (row.1 ≤ i ∧ i < row.1 + row.2.length)

/-- The tables of the replies leave no byte out: the lengths of R188 and of 10.5 to 10.8. -/
theorem test_tables_cover :
    covers (pressStatusTable (cellIn .curing) 0) 137 = true ∧ covers (pressStatusTable State.reset 1) 137 = true ∧
    covers (zoneStatusTable (cellIn .curing) 0) 193 = true ∧ covers (heatStatusTable State.reset) 33 = true ∧
    covers (cureStatusTable (cellIn .curing) 0) 71 = true ∧ covers (scaleStatusTable (scaleIn .removeWait 9)) 84 = true ∧
    covers (historyStatusTable (cellIn .commitHeld)) 40 = true ∧ covers (attnReadTable Attention.reset) 20 = true ∧
    covers (historyReadTable 0 64 (record 2)) 75 = true ∧ covers (recipeReadTable State.reset 0 recipe) 95 = true ∧
    (∀ l : LevelId, covers ((0, [0, 0, 0, 0, 0]) :: snapshotTable State.reset l) 19 = true) := by decide +kernel

/-! ## Steps of the commands, against the manual's values -/

/-- R166: a high strap selects 460,800 baud; R139: the next serial is 1. -/
theorem test_power_on : (after (.powerOn true) (cellIn .curing)).link.fast = true ∧
    (after (.powerOn true) (cellIn .curing)).history.nextSerial = 1 := by decide

/-- 9.8, frame 5: a marker and a length of 0 are answered by a link error of six bytes. -/
theorem test_byte_received_length_zero :
    payload (after (.byteReceived 0) (after (.byteReceived 0xA5) State.reset)) = [0x11] := by decide

/-- R167: a byte other than the marker is ignored in HUNT. -/
theorem test_byte_received_in_hunt : after (.byteReceived 0xA4) State.reset = State.reset := by decide

/-- R166. -/
theorem test_character_dropped :
    (after .characterDropped (receiverIn .body [1] [])).link.receiver.gapFrom = some 7 := by decide

/-- R170. -/
theorem test_gap_timer_expiry : (after .gapTimerExpiry (receiverIn .body [1] [])).link = State.reset.link := by decide

/-- 9.8, 6.944: the reply ends and the POLL that waits is taken. -/
theorem test_reply_end :
    (after .replyEnd (linkWith (some inHand) (some (requestEntry .poll)) 5)).link.slot = none ∧
    (payload (after .replyEnd (linkWith (some inHand) (some (requestEntry .poll)) 5))).length = 19 := by decide

/-- R177: four presses, eight zones, eight slots, 64 records, twelve levels. -/
theorem test_ident : (payload (after .ident State.reset)).take 9 = [0, 0x4E, 48, 4, 8, 8, 64, 12, 0] := by decide

/-- R179: the keep values leave mode and filter time. -/
theorem test_cell_set : payload (after (.cellSet 255 0 418) State.reset) = [0, 0, 20, 0xA2, 1, 0, 0, 0] := by decide

/-- R178: a next serial below the one in force is field 3. -/
theorem test_cell_set_serial_below : payload (after (.cellSet 3 100 3) (cellIn .offline)) = [3, 3] := by decide

/-- R180. -/
theorem test_cell_read : payload (after .cellRead State.reset) = [0, 0, 20, 1, 0, 0, 0, 0, 0] := by decide

/-- R181: a press in COMMIT_HELD holds RESTART off. -/
theorem test_restart_refused : payload (after .restart (cellIn .commitHeld)) = [4] := by decide

/-- R5: a press in CHARGE_WAIT returns to OFFLINE and off the queue, its setup kept. -/
theorem test_restart :
    ((after .restart (cellIn .chargeWait)).press 0).state = .offline ∧
    ((after .restart (cellIn .chargeWait)).press 0).setup.isSome ∧
    (after .restart (cellIn .chargeWait)).scale.queue = [] := by decide

/-- 2.8, step 8. -/
theorem test_press_setup :
    ((after (.pressSetup 1 0 0x33 1) (cellIn .offline)).press 1).setup =
      some { slot := 0, zones := 0x33, gating := .monitor } := by decide

/-- R39: an empty zone set is field 3, before an EMPTY slot. -/
theorem test_press_setup_no_zones : payload (after (.pressSetup 1 5 0 1) (cellIn .offline)) = [3, 3] := by decide

/-- R78: under MONITOR with heat RUN the press is admitted at once, and the reply says CHARGE_WAIT. -/
theorem test_press_enable : payload (after (.pressEnable 0) (cellIn .offline)) = [0, 2] := by decide

/-- 2.8, step 11: no setup. -/
theorem test_press_enable_without_setup : payload (after (.pressEnable 1) (cellIn .offline)) = [6] := by decide

/-- R9: from CHARGE_WAIT the press leaves the queue. -/
theorem test_press_disable :
    ((after (.pressDisable 0) (cellIn .chargeWait)).press 0).state = .offline ∧
    (after (.pressDisable 0) (cellIn .chargeWait)).scale.queue = [] := by decide

/-- R23: CURING goes to DEMOULD_DUE with ABORTED, and OPEN_PERMIT turns on (R3). -/
theorem test_press_abort_curing :
    payload (after (.pressAbort 0) (cellIn .curing)) = [0, 5] ∧
    ((after (.pressAbort 0) (cellIn .curing)).press 0).openPermit = true := by decide

/-- 7.8, 910,000 onward: a press aborted in CHARGE_READY is admitted again at once under MONITOR. -/
theorem test_press_abort_charge_ready :
    payload (after (.pressAbort 0) (cellIn .chargeReady)) = [0, 2] ∧
    (after (.pressAbort 0) (cellIn .chargeReady)).history.records.length = 1 := by decide

/-- R19: the new pulse ends eject_width ms from now. -/
theorem test_eject_retry :
    ((after (.ejectRetry 0) (cellIn .ejectFault)).press 0).stroke = some (.pulse 900 100 false) := by decide

/-- R20, R3: EJECTOR follows the forced level in HEATING. -/
theorem test_eject_force : ((after (.ejectForce 0 1) (cellIn .heating)).press 0).ejector = true := by decide

/-- R20: a level above 1 is field 2. -/
theorem test_eject_force_range : payload (after (.ejectForce 0 2) (cellIn .curing)) = [3, 2] := by decide

/-- R25, R26: the flags are reported, then clear. -/
theorem test_press_status :
    ((after (.pressStatus 0)
      (cellWith .heating fun x => { x with changes := ⟨true, false, true, false⟩ })).press 0).changes =
        ⟨false, false, false, false⟩ ∧
    (payload (after (.pressStatus 0)
      (cellWith .heating fun x => { x with changes := ⟨true, false, true, false⟩ })))[135]? = some 5 := by decide +kernel

/-- 2.8, step 1: OK with CLAMPED fields 3, 4, 5 and 8. -/
theorem test_recipe_write : payload (after (.recipeWrite 5 wire) State.reset) = [0, 0x38, 1, 0, 0] := by decide

/-- 2.8, step 2: drop_band below ready_band is reported before max_close below min_close. -/
theorem test_recipe_write_range :
    payload (after (.recipeWrite 5 { wire with dropBand := 40, maxClose := 50 }) State.reset) = [3, 11, 0] := by decide

/-- R34: 95 bytes, the slot first, the presses naming it last. -/
theorem test_recipe_read :
    (payload (after (.recipeRead 0) (cellIn .offline))).length = 95 ∧
    (payload (after (.recipeRead 0) (cellIn .offline))).drop 93 = [1, 0] := by decide +kernel

/-- 2.8, step 10: the setup of an OFFLINE press goes with the slot. -/
theorem test_recipe_clear :
    ((after (.recipeClear 0) (cellIn .offline)).press 0).setup = none ∧
    (after (.recipeClear 0) (cellIn .offline)).recipes[0] = none := by decide

/-- 2.8, step 7. -/
theorem test_recipe_clear_in_use : payload (after (.recipeClear 0) (cellIn .heating)) = [5] := by decide

/-- 2.8: without a setup a manual duty of 900 is within the bound of 1000. -/
theorem test_zone_mode : payload (after (.zoneMode 1 3 1 900) State.reset) = [0, 1, 0x84, 3] := by decide

/-- R53, R54: max_duty bounds the manual duty of a press with a setup. -/
theorem test_zone_mode_bounded : payload (after (.zoneMode 0 3 1 900) (cellIn .heating)) = [0, 1, 0x20, 3] := by decide

/-- R59, R60: before the first sample a zone is GOOD with class TEMPERATURE and value 0. -/
theorem test_zone_status :
    ((payload (after (.zoneStatus 1) State.reset)).drop 9).take 8 = [0, 0, 0, 0, 0, 0, 0, 0] := by decide +kernel

/-- R63: 900 s are clamped to 600. -/
theorem test_heat_permit :
    payload (after (.heatPermit 900) State.reset) = [0, 0x58, 2, 1, 0x70, 0x17, 0] := by decide

/-- R63: a duration of 0 leaves the lapse flag. -/
theorem test_heat_permit_zero : payload (after (.heatPermit 0) (heatIn .run)) = [0, 0, 0, 2, 0, 0, 1] := by decide

/-- R65: HEAT_OFF marks a cycle in OFF too. -/
theorem test_heat_off :
    (((after .heatOff { cellIn .curing with heat := HeatUnit.reset }).press 0).context.map
      fun c => c.panel.flags.heatOff) = some true := by decide

/-- R81. -/
theorem test_heat_status : (payload (after .heatStatus (heatIn .run))).take 5 = [0, 1, 1, 0, 1] := by decide

/-- R101: the target of 1440 sixteenths is 11,796,480 cu. -/
theorem test_cure_status :
    ((payload (after (.cureStatus 0) (cellIn .curing))).drop 10).take 4 = [0x00, 0x00, 0xB4, 0x00] := by decide +kernel

/-- R119: the settings of 6.9 are taken outside LOADING. -/
theorem test_scale_set :
    (after (.scaleSet 12000 655 5 10 200 50 500) State.reset).scale.settings =
      { zero := 12000, gain := 655, band := 5, qualify := 10, placeThreshold := 200, emptyThreshold := 50,
        tareLimit := 500 } := by decide

/-- R118: an empty threshold at the place threshold is field 6. -/
theorem test_scale_set_range : payload (after (.scaleSet 0 1 1 3 50 50 0) State.reset) = [3, 6] := by decide

/-- R120: SCALE_ZERO leaves TARE_FAULT. -/
theorem test_scale_zero : (after .scaleZero (scaleIn .tareFault 9)).scale.state = .emptySettle := by decide

/-- R120: not in LOADING. -/
theorem test_scale_zero_in_loading : payload (after .scaleZero (scaleIn .loading 9)) = [4] := by decide

/-- R121: the state, then an absent last sample. -/
theorem test_scale_status :
    (payload (after .scaleStatus (scaleIn .loading 9))).take 3 = [0, 2, 0] := by decide

/-- R136: 64 records, none free. -/
theorem test_history_status : (payload (after .historyStatus (cellIn .commitHeld))).take 3 = [0, 64, 0] := by decide

/-- R137: a position at the count is NOT_FOUND. -/
theorem test_history_read : (payload (after (.historyRead 63) (cellIn .commitHeld))).length = 75 ∧
    payload (after (.historyRead 64) (cellIn .commitHeld)) = [6] := by decide +kernel

/-- 7.8, 910,000: one record removed and one press released, the queue full again. -/
theorem test_history_ack :
    payload (after (.historyAck 2) (cellIn .commitHeld)) = [0, 1, 1, 64, 1, 3, 0, 0, 0] ∧
    ((after (.historyAck 2) (cellIn .commitHeld)).press 0).state = .chargeWait := by decide

/-- R138. -/
theorem test_history_ack_not_found : payload (after (.historyAck 9) (cellIn .commitHeld)) = [6] := by decide

/-- 8.11, 720,150: POLL grants level 8 + p with the state, serial and mass of the press that waits for its close. -/
theorem test_poll :
    payload (after .poll (after (.attnSetup 0 0xFF0 0 0 0) (after (.partClearFall 0 0) (cellIn .chargeReady)) |>
      fun s => { s with link := State.reset.link })) =
      [0, 8, 1, 0, 11, 3, 1, 0, 0, 0, 0xD5, 0x2F, 0, 0, 0, 0, 0, 0, 0] := by decide

/-- R153: POLL_NONE. -/
theorem test_poll_none : (payload (after .poll State.reset)).take 5 = [0, 255, 0, 255, 11] := by decide

/-- 8.11, 736,000: SPECIFIC with ROTATE moves the ring, although nothing was in service (R158). -/
theorem test_end_service : payload (after (.endService 1 10 1) State.reset) = [0, 255, 10] := by decide

/-- R157: the level field is not examined for NON_SPECIFIC. -/
theorem test_end_service_non_specific : payload (after (.endService 0 99 0) State.reset) = [0, 255, 11] := by decide

/-- R150. -/
theorem test_set_lowest : (after (.setLowest 4) State.reset).attention.lowest = 4 ∧
    payload (after (.setLowest 12) State.reset) = [3, 1] := by decide

/-- R161: bit 12 of the mask is out of range. -/
theorem test_attn_setup_range : payload (after (.attnSetup 0x1000 0 0 0 0) State.reset) = [3, 1] := by decide

/-- R147: a level whose condition holds takes its request as it turns to EDGE. -/
theorem test_attn_setup :
    (after (.attnSetup 0 0x100 0 0 0) (after (.partClearFall 0 0) (cellIn .chargeReady))).attention.levels[8] =
      { condition := true, edge := true, request := true, armed := false, masked := false, inService := false } := by
  decide

/-- R163, R164: all masked, all armed, lowest 11. -/
theorem test_attn_read :
    payload (after .attnRead State.reset) =
      [0, 0, 0, 0, 0, 0, 0, 0xFF, 0x0F, 0xFF, 0x0F, 0, 0, 0, 0, 0, 11, 0, 0, 0] := by decide

/-- 1.12, 500,020: the captured time is the close time. -/
theorem test_closed_rise :
    (((after (.closedRise 0 500000) (cellIn .chargeReady)).press 0).context.bind fun c => c.panel.closeTime) =
      some 500000 := by decide

/-- R12: a rise with no charge. -/
theorem test_closed_rise_unexpected :
    ((after (.closedRise 0 5) (cellIn .heating)).press 0).changes.unexpectedClose = true := by decide

/-- 1.12, 565,020: the delay lasts 400 ms from the acceptance. -/
theorem test_closed_fall :
    ((after (.closedFall 0 565000) { cellIn .demouldDue with clock := 565020 }).press 0).stroke =
      some (.delay 565420) := by decide

/-- R15: a fall in CURING adds EARLY_OPEN. -/
theorem test_closed_fall_early :
    (((after (.closedFall 0 90) (cellIn .curing)).press 0).context.map fun c => c.panel.flags.earlyOpen) =
      some true := by decide

/-- 1.12, 565,630: contact at 190 ms. -/
theorem test_contact_rise :
    (((after (.ejectContactRise 0 565610)
      (cellWith .ejecting fun x => { x with stroke := some (.pulse 566220 565420 false) })).press 0).context.bind
        fun c => c.panel.contactDelay) = some 190 := by decide

/-- R17: a fall is captured alone. -/
theorem test_contact_fall :
    (after (.ejectContactFall 0 77) (cellIn .ejecting)).press 0 =
      { pressIn .ejecting with
          contact := { sampled := true, level := false, candidate := none }
          captures := ⟨0, 0, 0, 77, 0, 0⟩ } := by decide

/-- 7.8, 904,500: with a full queue the press is held with the captured time. -/
theorem test_part_clear_rise_held :
    ((after (.partClearRise 0 904480)
      { cellIn .unloadWait with history := { records := fullQueue, waitList := [], nextSerial := 4, exhausted := false } }).press
        0).state = .commitHeld := by decide

/-- 1.12, 571,320: with room the record is GOOD. -/
theorem test_part_clear_rise :
    (after (.partClearRise 0 571300) (cellIn .unloadWait)).history.records.map PartRecord.grade = [.good] := by decide

/-- R21. -/
theorem test_part_clear_fall :
    ((after (.partClearFall 0 6) (cellIn .unloadWait)).press 0).state = .unloadWait := by decide

/-- 1.12, 565,420: the pulse lasts 800 ms. -/
theorem test_delay_end :
    ((after (.delayEnd 0)
      { cellWith .ejecting fun x => { x with stroke := some (.delay 565420) } with clock := 565420 }).press 0).stroke =
        some (.pulse 566220 565420 false) := by decide

/-- R18: without contact, EJECT_FAULT. -/
theorem test_pulse_end_fault : ((after (.pulseEnd 0) (cellIn .ejecting)).press 0).state = .ejectFault := by decide

/-- 3.1, case A: 75 + 200 = 275, and the integral grows by 120. -/
theorem test_control_law :
    let z := Zone.controlLaw recipe 1450 { Zone.reset with lastGood := 1420, integral := 51200, pending := 275 }
    z.pending = 275 ∧ z.integral = 51320 := by decide

/-- 3.9, 1,002,546: the third bad sample, FAULT, and the heater off at once. -/
theorem test_zone_sample_fault :
    ((after (.zoneSample 0 5 .range) (cellWith .heating (Press.modZone 5 fun z =>
      { z with sensor := .suspect, badCount := 2, applied := 275, heater := true, integral := 70400 }))).press
        0).zones[5] =
      { Zone.reset with sensor := .fault, lastSample := some .range } := by decide

/-- 5.11, case 1: the first step adds 46,341 cu at 1500 t°C. -/
theorem test_cure_step :
    (((after (.zoneSample 0 7 (.temperature 1500)) (cellWith .curing fun x => { x with
        zones := Vector.replicate 8 { Zone.reset with lastGood := 1500 } })).press 0).context.bind
          CycleContext.accumulator) = some 92682 := by decide

/-- 5.11, case 2: −77 × 64 / 100 rounds to −49 and 19,274 cu, down to −50 and 19,066 cu. -/
theorem test_cure_rounding :
    rawExponent .nearestEven recipe (-77) = -49 ∧ increment .nearestEven 38548 (-1) = 19274 ∧
    rawExponent .down recipe (-77) = -50 ∧ increment .down 38133 (-1) = 19066 := by decide

/-- R91: the first, the middle and the last entry. -/
theorem test_mantissa_table :
    mantissaTable.length = 64 ∧ mantissaTable[0]? = some 32768 ∧ mantissaTable[32]? = some 46341 ∧
    mantissaTable[63]? = some 64830 := by decide

/-- R56, R57: 275 of 2000 ms is 550 ms, so the heater is on. -/
theorem test_window_start :
    ((after (.windowStart 0) (cellWith .heating (Press.modZone 5 fun z => { z with pending := 275 }))).press 0).zones[5] =
      { Zone.reset with pending := 275, applied := 275, heater := true } := by decide

/-- R57. -/
theorem test_on_time_end :
    ((after (.onTimeEnd 0 5)
      (cellWith .heating (Press.modZone 5 fun z => { z with applied := 275, heater := true }))).press 0).zones[5] =
      { Zone.reset with applied := 275 } := by decide

/-- R104: (1,250,000 − 12,000) × 655 / 65536 is 12,373, and 12,374 upward. -/
theorem test_gross_mass :
    grossMass .nearestEven { ScaleSettings.reset with zero := 12000, gain := 655 } 1250000 = 12373 ∧
    grossMass .up { ScaleSettings.reset with zero := 12000, gain := 655 } 1250000 = 12374 := by decide

/-- R113, R114: the tenth sample within the band is judged, and the head press takes serial 4. -/
theorem test_load_cell_sample :
    ((after (.loadCellSample (.raw 12233)) (cellIn .chargeWait |> fun s => { s with scale := { s.scale with
      state := .loading, anchor := some 12235, count := 9 } })).press 0).context.map (fun c => (c.panel.serial, c.panel.mass)) =
      some (4, 12233) := by decide

/-- R104: OVERLOAD clears the run. -/
theorem test_load_cell_overload : (after (.loadCellSample .overload) (scaleIn .loading 9)).scale.count = 0 := by decide

/-- R64: the lapse leaves STANDBY with the flag set. -/
theorem test_permit_lapse :
    (after .permitLapse (heatIn .run)).heat = { state := .standby, remaining := 0, lapse := true, nextStep := 200 } := by
  decide

/-- R64: the step from 6000. -/
theorem test_permit_countdown_step :
    (after .permitCountdownStep (cellIn .heating)).heat =
      { state := .run, remaining := 5999, lapse := false, nextStep := 300 } := by decide

/-- 1.12, 500,020: the 20 ms of the filter are over, and the rise carries the candidate's start. -/
theorem test_press_input_sample :
    ((after (.pressInputSample 2 .closed true) { State.reset with
        clock := 500020
        presses := State.reset.presses.set 2
          { Press.reset with closed := { sampled := true, level := false, candidate := some 500000 } } }).press
      2).captures.closedRise = 500000 := by decide

/-- R41, R103, 7.3: a millisecond passes on an empty queue. -/
theorem test_idle_step : State.reset.tick = { State.reset with clock := 1, scanPhase := 1, loadPhase := 1 } := by
  decide +kernel

/-- R103: no sample is due at power-on; the first is due at 20 ms, and the next 20 ms later. -/
theorem test_load_cell_times (v : LoadSample) :
    ¬Timely (.loadCellSample v) State.reset ∧ (∀ k : Fin 20, nextLoadPhase^[k] State.reset.loadPhase ≠ 20) ∧
    nextLoadPhase^[20] State.reset.loadPhase = 20 ∧ nextLoadPhase^[40] State.reset.loadPhase = 20 :=
  ⟨by simp [Timely, State.reset, State.powerOn], by decide +kernel, by decide +kernel, by decide +kernel⟩

/-! ## Witnesses: for each obligation with hypotheses, a state and operands that meet them -/

/-- Every zone of the press is active. -/
theorem pressIn_active (st : PressState) (z : ZoneId) : (pressIn st).isActive z = true := by
  show (0xFF : Byte).getLsbD z.val = true
  revert z
  decide

/-- The laws of a cell with press 0 in a state, whichever it is. -/
theorem cellIn_pins (st : PressState) : PinLaw (cellIn st) := by cases st <;> (unfold PinLaw; decide)

/-- So do they in a cell with a change of press 0 that moves no pin. -/
theorem cellWith_pins (st : PressState) (f : Press → Press)
    (h : ((f (pressIn st)).state, (f (pressIn st)).stroke, (f (pressIn st)).forced, (f (pressIn st)).openPermit,
        (f (pressIn st)).ejector) =
      ((pressIn st).state, (pressIn st).stroke, (pressIn st).forced, (pressIn st).openPermit, (pressIn st).ejector)) :
    PinLaw (cellWith st f) := by
  simp only [Prod.mk.injEq] at h
  obtain ⟨h1, h2, h3, h4, h5⟩ := h
  intro p
  match p with
  | 0 =>
    have := cellIn_pins st 0
    have e : (cellWith st f).press 0 = f (pressIn st) := rfl
    have e' : (cellIn st).press 0 = pressIn st := rfl
    simp only [Press.inPulse, e, e', h1, h2, h3, h4, h5] at this ⊢
    exact this
  | 1 => exact cellIn_pins st 1
  | 2 => exact cellIn_pins st 2
  | 3 => exact cellIn_pins st 3

/-- Slot 0 is not in use by an OFFLINE press. -/
theorem cellIn_offline_free : ¬InUse (cellIn .offline) 0 := by
  rintro ⟨q, u, h1, h2, h3⟩
  refine h3 ?_
  clear h1 h2 h3
  revert q
  decide

theorem cellIn_queues (st : PressState) : QueueLaw (cellIn st) := by cases st <;> (unfold QueueLaw; decide)

theorem cellIn_setups (st : PressState) : SetupLaw (cellIn st) := by
  intro p
  refine ⟨by cases st <;> revert p <;> decide, fun u h => ?_, by cases st <;> revert p <;> decide,
    by cases st <;> revert p <;> decide⟩
  match p with
  | 0 => cases st <;> (cases h; decide)
  | 1 | 2 | 3 => cases h

theorem cellIn_contexts (st : PressState) : ContextLaw (cellIn st) := by
  intro p
  refine ⟨by cases st <;> revert p <;> decide, fun c h => ?_⟩
  match p with
  | 0 =>
    cases st <;> first
      | (cases h; done)
      | (cases h; simp [CycleContext.fits, cellIn, pressIn, State.press, panel, openPanel])
  | 1 | 2 | 3 => cases h

theorem cellIn_cycle (st : PressState) : CycleLaw (cellIn st) := ⟨cellIn_setups st, cellIn_contexts st, cellIn_queues st⟩

theorem witness_StepRunsTheFrontCommand :
    ∃ (c : Instr) (rest : List Instr) (s : State), s.pending = c :: rest :=
  ⟨.poll, [.ident], { State.reset with pending := [.poll, .ident] }, rfl⟩

/-- A cell with a VALID slot and the setpoints of its recipe. -/
def heatedCell : State := (cellIn .heating).recomputeSetpoints 0

theorem heatedCell_platens : PlatenLaw heatedCell := by
  refine ⟨⟨?_, ?_⟩, ?_⟩
  · intro n r h
    match n with
    | 0 => cases h; unfold Recipe.inRanges; decide
    | 1 | 2 | 3 | 4 | 5 | 6 | 7 => cases h
  · intro p
    refine ⟨by revert p; decide, fun u h => ?_⟩
    match p with
    | 0 => cases h; rfl
    | 1 | 2 | 3 => cases h
  · intro p z
    refine ⟨by revert p z; decide, fun r h => ?_, by revert p z; decide, by revert p z; decide⟩
    match p with
    | 0 => cases h; revert z; decide
    | 1 | 2 | 3 => cases h

theorem heatedCell_cycle : CycleLaw heatedCell := by
  refine ⟨fun p => ⟨by revert p; decide, fun u h => ?_, by revert p; decide, by revert p; decide⟩,
    fun p => ⟨by revert p; decide, fun c h => ?_⟩, by unfold QueueLaw; decide⟩
  · match p with
    | 0 => cases h; decide
    | 1 | 2 | 3 => cases h
  · match p with
    | 0 | 1 | 2 | 3 => cases h

/-- With no reply to end and a window that starts now, and with a reply that ends now. -/
theorem witness_IdleStepPassesAMillisecond :
    (∃ s u : State, s.pending = [] ∧ (Timely .replyEnd s → exec .replyEnd s = .next u) ∧ (¬Timely .replyEnd s → u = s) ∧
      PlatenLaw u ∧ Timely (.windowStart 0) u ∧ s.loadPhase = 20) ∧
    (∃ s u : State, s.pending = [] ∧ (Timely .replyEnd s → exec .replyEnd s = .next u) ∧ (¬Timely .replyEnd s → u = s) ∧
      PlatenLaw u ∧ Timely .replyEnd s ∧ u ≠ s ∧ s.loadPhase ≠ 20) := by
  refine ⟨⟨{ heatedCell with clock := 2000, loadPhase := 20 }, _, rfl, ?_, fun _ => rfl, heatedCell_platens,
      ⟨0, recipe, rfl, rfl, by decide⟩, rfl⟩,
    { heatedCell with link := { heatedCell.link with hand := some inHand } }, heatedCell, rfl, fun _ => rfl, ?_,
      heatedCell_platens, ⟨inHand, rfl, by decide⟩, by decide, by decide⟩
  · rintro ⟨h, e, -⟩
    cases e
  · intro h
    exact absurd ⟨inHand, rfl, by decide⟩ h

theorem witness_EveryCommandCompletes : ∃ c : Instr, ∀ strap, c ≠ .powerOn strap := ⟨.poll, fun _ => by simp⟩

theorem witness_RequestsRoundTrip :
    (Instr.attnSetup 0xFFFF 0xFFFF 255 255 255).isRequest = true ∧ (Instr.recipeWrite 255 wire).isRequest = true ∧
      Instr.ident.isRequest = true := by decide

theorem witness_FrameOfARequestIsTaken :
    (∃ (s : State) (kind : Byte) (pay : List Byte),
      requestBytes .restart = some (kind, pay) ∧ s.link.receiver = Receiver.reset ∧ s.link.hand = none) ∧
    (∃ (s : State) (kind : Byte) (pay : List Byte),
      requestBytes (.recipeWrite 7 wire) = some (kind, pay) ∧ s.link.receiver = Receiver.reset ∧ s.link.hand ≠ none) :=
  ⟨⟨State.reset, _, _, rfl, rfl, rfl⟩, linkWith (some inHand) none 65535, _, _, rfl, rfl, by decide⟩

/-- A check that differs from another. -/
theorem next_ne (check : BitVec 16) : check + 1 ≠ check := by
  intro h
  have := congrArg BitVec.toNat h
  simp at this
  omega

theorem witness_DamagedFramesAreAnswered :
    (∃ s : State, s.link.receiver = Receiver.reset ∧ s.link.hand = none) ∧
    (∃ (kind : Byte) (pay : List Byte) (check : BitVec 16), pay.length = 0 ∧
      check ≠ frameCheck (numberByte (pay.length + 1) :: kind :: pay)) ∧
    (∃ (kind : Byte) (pay : List Byte) (check : BitVec 16), pay.length = 240 ∧
      check ≠ frameCheck (numberByte (pay.length + 1) :: kind :: pay)) ∧
    (∃ length : Byte, length = 0) ∧ (∃ length : Byte, length.toNat = 242 ∧ 241 < length.toNat) :=
  ⟨⟨State.reset, rfl, rfl⟩, ⟨0x50, [], _, rfl, next_ne _⟩, ⟨0x50, List.replicate 240 0, _, List.length_replicate .., next_ne _⟩,
    ⟨0, rfl⟩, 242, by decide, by decide⟩

theorem witness_UndefinedRequestsAreRefused :
    (∃ s : State, s.link.receiver = Receiver.reset ∧ s.link.hand = none) ∧
    (∃ (kind : Byte) (pay : List Byte), pay.length = 240 ∧ kind = 0xFF ∧ (kind.toNat, pay.length) ∉ kindTable) ∧
    (∃ (kind : Byte) (pay : List Byte), pay.length = 0 ∧ kind = 0x50 ∧ (kind.toNat, pay.length) ∉ kindTable) ∧
    (∃ (kind : Byte) (pay : List Byte), pay.length = 9 ∧ kind = 0x20 ∧ (kind.toNat, pay.length) ∉ kindTable) :=
  ⟨⟨State.reset, rfl, rfl⟩, ⟨0xFF, List.replicate 240 0, List.length_replicate .., rfl, by
    rw [List.length_replicate]; decide⟩, ⟨0x50, [], rfl, rfl, by decide⟩, 0x20, List.replicate 9 0, rfl, rfl, by decide⟩

theorem witness_ReceiverMoves :
    (∃ s : State, s.link.receiver.state = .hunt) ∧
    (∃ (s : State) (b : Byte), s.link.receiver.state = .length ∧ 1 ≤ b.toNat ∧ b.toNat ≤ 241 ∧ b = 1) ∧
    (∃ (s : State) (b : Byte), s.link.receiver.state = .length ∧ 1 ≤ b.toNat ∧ b.toNat ≤ 241 ∧ b = 241) ∧
    (∃ s : State, s.link.receiver.state = .body ∧ s.link.receiver.length.toNat ≤ s.link.receiver.body.length + 1) ∧
    (∃ s : State, s.link.receiver.state = .body ∧ ¬s.link.receiver.length.toNat ≤ s.link.receiver.body.length + 1) ∧
    (∃ s : State, s.link.receiver.state = .check ∧ s.link.receiver.check = []) ∧
    (∃ s : State, s.link.receiver.state ≠ .hunt) :=
  ⟨⟨State.reset, rfl⟩, ⟨receiverIn .length [] [], 1, rfl, by decide, by decide, rfl⟩,
    ⟨receiverIn .length [] [], 241, rfl, by decide, by decide, rfl⟩, ⟨receiverIn .body [1] [], rfl, by decide⟩,
    ⟨receiverIn .body [] [], rfl, by decide⟩, ⟨receiverIn .check [1, 2] [], rfl, rfl⟩, receiverIn .check [1, 2] [], by decide⟩

theorem witness_EntriesAreTakenInTurn :
    (∃ (c : Instr) (s : State), c.isRequest = true ∧ s.link.hand ≠ none ∧ s.link.slot = none) ∧
    (∃ (c : Instr) (s : State), c.isRequest = true ∧ s.link.hand ≠ none ∧ s.link.slot ≠ none ∧ s.link.discarded = 65535) ∧
    (∃ (c : Instr) (s : State), c.isRequest = true ∧ s.link.hand ≠ none ∧ s.link.slot = some (requestEntry c)) ∧
    (∃ s : State, s.link.hand = none) ∧
    (∃ s : State, s.link.receiver = Receiver.reset ∧ s.link.hand ≠ none ∧ s.link.slot = none) ∧
    (∃ s : State, s.link.receiver = Receiver.reset ∧ s.link.hand ≠ none ∧ s.link.slot = some (.linkError .frameLength)) ∧
    (∃ s : State, s.link.receiver = Receiver.reset ∧ s.link.hand ≠ none ∧ s.link.slot = some (.request 0xFF []) ∧
      ((0xFF : Byte).toNat, ([] : List Byte).length) ∉ kindTable) ∧
    (∃ bytes, MakesEntry bytes (.linkError .badCheck)) ∧ MakesEntry [0xA5, 242] (.linkError .frameLength) ∧
    (∃ bytes, MakesEntry bytes (.request 0x50 (List.replicate 240 0))) :=
  ⟨⟨.poll, linkWith (some inHand) none 0, by decide, by decide, rfl⟩,
    ⟨.poll, linkWith (some inHand) (some (.linkError .badCheck)) 65535, by decide, by decide, by decide, rfl⟩,
    ⟨.poll, linkWith (some inHand) (some (requestEntry .poll)) 0, by decide, by decide, rfl⟩, ⟨State.reset, rfl⟩,
    ⟨linkWith (some inHand) none 0, rfl, by decide, rfl⟩,
    ⟨linkWith (some inHand) (some (.linkError .frameLength)) 0, rfl, by decide, rfl⟩,
    ⟨linkWith (some inHand) (some (.request 0xFF [])) 0, rfl, by decide, rfl, by decide⟩,
    ⟨_, .inl ⟨0x50, [], _, by decide, next_ne _, rfl, rfl⟩⟩, .inr (.inl ⟨242, .inr (by decide), rfl, rfl⟩),
    ⟨_, .inr (.inr ⟨0x50, List.replicate 240 0, by rw [List.length_replicate], rfl, rfl⟩)⟩⟩

theorem witness_IdentAndCellReadReport : ∃ s : State, s.link.hand = none ∧ s.link.discarded = 65535 :=
  ⟨linkWith none none 65535, rfl, rfl⟩

theorem witness_CellSetAppliesOrRefuses : ∃ s : State, s.link.hand = none ∧ s.history.nextSerial = 4 ∧
    (∃ (rounding filterTime : Byte) (serial : BitVec 32), rounding.toNat = 3 ∧ filterTime.toNat = 100 ∧
      s.history.nextSerial = serial.toNat) ∧
    (∃ (rounding filterTime : Byte) (serial : BitVec 32), rounding = 255 ∧ filterTime = 0 ∧ serial = 0) ∧
    (∃ rounding : Byte, 3 < rounding.toNat ∧ rounding ≠ 255 ∧ rounding = 254) ∧
    (∃ (rounding filterTime : Byte), rounding.toNat ≤ 3 ∧ 100 < filterTime.toNat ∧ filterTime = 101) ∧
    (∃ (rounding filterTime : Byte) (serial : BitVec 32), rounding = 255 ∧ filterTime.toNat ≤ 100 ∧ serial ≠ 0 ∧
      serial.toNat < s.history.nextSerial) :=
  ⟨cellIn .offline, rfl, rfl, ⟨3, 100, 4, by decide, by decide, by decide⟩, ⟨255, 0, 0, rfl, rfl, rfl⟩,
    ⟨254, by decide, by decide, rfl⟩, ⟨0, 101, by decide, by decide, rfl⟩, 255, 100, 3, rfl, by decide, by decide, by decide⟩

theorem witness_RestartQuietensTheCell :
    (∃ s : State, s.link.hand = none ∧ (s.press 0).state = .chargeWait ∧
      ∀ p, (s.press p).state = .offline ∨ (s.press p).state = .heating ∨ (s.press p).state = .chargeWait) ∧
    (∃ s : State, s.link.hand = none ∧ ∃ p, (s.press p).state.holdsContext = true) :=
  ⟨⟨cellIn .chargeWait, rfl, rfl, by decide⟩, cellIn .commitHeld, rfl, 0, rfl⟩

theorem witness_PressEnableStartsService :
    (∃ (s : State) (p : PressId) (x : Press) (u : Setup) (r : Recipe), PinLaw s ∧ s.link.hand = none ∧ s.press p = x ∧
      x.state = .offline ∧ x.setup = some u ∧ s.recipes[u.slot] = some r ∧ Admissible s p) ∧
    (∃ (s : State) (p : PressId) (x : Press) (u : Setup) (r : Recipe), PinLaw s ∧ s.link.hand = none ∧ s.press p = x ∧
      x.state = .offline ∧ x.setup = some u ∧ s.recipes[u.slot] = some r ∧ ¬Admissible s p) :=
  ⟨⟨cellIn .offline, 0, _, _, _, cellIn_pins _, rfl, rfl, rfl, rfl, rfl, rfl, _, rfl, .inl rfl⟩,
    { cellIn .offline with heat := HeatUnit.reset }, 0, _, _, _, cellIn_pins .offline, rfl, rfl, rfl, rfl, rfl,
      fun h => by cases h.1⟩

theorem witness_PressDisableEndsService :
    (∃ (s : State) (p : PressId) (x : Press), PinLaw s ∧ s.link.hand = none ∧ s.press p = x ∧ x.state = .heating) ∧
    (∃ (s : State) (p : PressId) (x : Press), PinLaw s ∧ s.link.hand = none ∧ s.press p = x ∧ x.state = .chargeWait) :=
  ⟨⟨cellIn .heating, 0, _, cellIn_pins _, rfl, rfl, rfl⟩, cellIn .chargeWait, 0, _, cellIn_pins _, rfl, rfl, rfl⟩

/-- In each state that aborts, a press with a panel in it; and a press that waits for its charge. -/
theorem witness_AbortActsByTheTable :
    (∀ st : PressState, st = .curing ∨ st = .demouldDue ∨ st = .ejecting ∨ st = .ejectFault ∨ st = .unloadWait →
      ∃ (s : State) (p : PressId) (x : Press) (c : CycleContext), PinLaw s ∧ s.link.hand = none ∧ s.press p = x ∧
        x.context = some c ∧ x.state = st) ∧
    (∃ (s : State) (p : PressId) (x : Press), PinLaw s ∧ s.link.hand = none ∧ s.press p = x ∧ x.state = .chargeWait ∧
      Admissible s p) := by
  refine ⟨fun st h => ?_, cellIn .chargeWait, 0, _, cellIn_pins _, rfl, rfl, rfl, rfl, _, rfl, .inl rfl⟩
  rcases h with rfl | rfl | rfl | rfl | rfl <;> exact ⟨cellIn _, 0, _, _, cellIn_pins _, rfl, rfl, rfl, rfl⟩

theorem witness_CommitIsTakenOrHeld :
    (∃ f : RecordFlags, f.cureStalled = true ∧ f.tareStale = true) ∧
    (∃ f : RecordFlags, f.undercure = false ∧ f.aborted = false ∧ f.earlyOpen = false ∧ f.cureStalled = false ∧
      f.ejectRetried = true) ∧
    (∃ (s : State) (p : PressId) (x : Press) (c : CycleContext), PinLaw s ∧ s.press p = x ∧ x.context = some c ∧
      s.link.hand = none ∧ x.state = .chargeReady ∧ s.history.records.length < 64) ∧
    (∃ (s : State) (p : PressId) (x : Press) (c : CycleContext), PinLaw s ∧ s.press p = x ∧ x.context = some c ∧
      x.state = .unloadWait ∧ 64 ≤ s.history.records.length) :=
  ⟨⟨{ cureStalled := true, tareStale := true }, rfl, rfl⟩, ⟨{ ejectRetried := true }, rfl, rfl, rfl, rfl, rfl⟩,
    ⟨cellIn .chargeReady, 0, _, _, cellIn_pins _, rfl, rfl, rfl, rfl, by decide⟩,
    { cellIn .unloadWait with history := { records := fullQueue, waitList := [], nextSerial := 4, exhausted := false } },
    0, _, _, cellIn_pins .unloadWait, rfl, rfl, rfl, by decide⟩

theorem witness_EjectorRequestsDriveTheEjector :
    (∃ (s : State) (p : PressId) (x : Press) (c : CycleContext) (r : Recipe), PinLaw s ∧ s.link.hand = none ∧
      s.press p = x ∧ x.state = .ejectFault ∧ x.context = some c ∧ s.recipeOf p = some r ∧ c.panel.retries = 255) ∧
    (∃ (s : State) (p : PressId) (x : Press), PinLaw s ∧ s.link.hand = none ∧ s.press p = x ∧ x.state = .heating) :=
  ⟨⟨cellWith .ejectFault fun x => x.onContext (CycleContext.onPanel fun r => { r with retries := 255 }), 0, _, _, _,
      by unfold PinLaw; decide, rfl, rfl, rfl, rfl, rfl, rfl⟩,
    cellIn .heating, 0, _, cellIn_pins _, rfl, rfl, rfl⟩

theorem witness_PressStatusClearsTheChangeFlags :
    ∃ (s : State) (p : PressId) (x : Press), PinLaw s ∧ s.link.hand = none ∧ s.press p = x :=
  ⟨cellIn .curing, 0, _, cellIn_pins _, rfl, rfl⟩

theorem witness_PressRequestsAreRefused :
    (∃ (s : State) (b : Byte), s.link.hand = none ∧ 4 ≤ b.toNat ∧ b = 4) ∧
    (∃ (s : State) (p : PressId), s.link.hand = none ∧ (s.press p).state ≠ .offline ∧ (s.press p).state ≠ .heating ∧
      (s.press p).state ≠ .chargeWait ∧ (s.press p).state ≠ .ejectFault ∧ (s.press p).state = .commitHeld) ∧
    (∃ l : Byte, 1 < l.toNat ∧ l = 2) ∧
    (∃ (s : State) (p : PressId), s.link.hand = none ∧ (s.press p).state = .offline ∧ (s.press p).setup = none) :=
  ⟨⟨State.reset, 4, rfl, by decide, rfl⟩, ⟨cellIn .commitHeld, 0, by decide⟩, ⟨2, by decide, rfl⟩, State.reset, 3, by decide⟩

theorem witness_ClosedRiseStartsTheCure :
    (∃ (s : State) (p : PressId) (x : Press) (c : CycleContext) (r : Recipe), PinLaw s ∧ s.press p = x ∧
      x.state = .chargeReady ∧ x.context = some c ∧ s.recipeOf p = some r) ∧
    (∃ (s : State) (p : PressId) (x : Press), PinLaw s ∧ s.press p = x ∧ x.state = .offline) ∧
    (∃ (s : State) (p : PressId) (x : Press), PinLaw s ∧ s.press p = x ∧ x.state = .commitHeld) :=
  ⟨⟨cellIn .chargeReady, 0, _, _, _, cellIn_pins _, rfl, rfl, rfl, rfl⟩,
    ⟨cellIn .offline, 0, _, cellIn_pins _, rfl, rfl⟩, cellIn .commitHeld, 0, _, cellIn_pins _, rfl, rfl⟩

theorem witness_ClosedFallOpensThePress :
    (∃ (s : State) (p : PressId) (x : Press) (c : CycleContext) (r : Recipe), PinLaw s ∧ s.press p = x ∧
      x.context = some c ∧ s.recipeOf p = some r ∧ x.state = .demouldDue ∧ r.ejectDelay ≠ 0) ∧
    (∃ (s : State) (p : PressId) (x : Press) (c : CycleContext) (r : Recipe), PinLaw s ∧ s.press p = x ∧
      x.context = some c ∧ s.recipeOf p = some r ∧ x.state = .curing ∧ r.ejectDelay = 0) :=
  ⟨⟨cellIn .demouldDue, 0, _, _, _, cellIn_pins _, rfl, rfl, rfl, rfl, by decide⟩,
    { cellIn .curing with recipes := State.reset.recipes.set 0 (some { recipe with ejectDelay := 0 }) }, 0, _, _, _,
      cellIn_pins .curing, rfl, rfl, rfl, rfl, rfl⟩

theorem witness_OtherEdgesAreOnlyCaptured :
    (∃ (s : State) (p : PressId) (x : Press), PinLaw s ∧ s.press p = x ∧ x.state ≠ .curing ∧ x.state ≠ .demouldDue ∧
      x.state ≠ .unloadWait ∧ x.state ≠ .ejecting) ∧
    (∃ (s : State) (p : PressId) (x : Press) (captured : Clock), PinLaw s ∧ s.press p = x ∧ x.state = .ejecting ∧
      ∀ ends start, x.stroke = some (.pulse ends start false) → 2147483648 ≤ (captured - start).toNat) :=
  ⟨⟨cellIn .ejectFault, 0, _, cellIn_pins _, rfl, by decide⟩,
    cellIn .ejecting, 0, _, 199, cellIn_pins _, rfl, rfl, fun _ _ h => by cases h; decide⟩

theorem witness_ContactIsRecordedInThePulse :
    ∃ (s : State) (p : PressId) (x : Press) (c : CycleContext) (ends start captured : Clock), PinLaw s ∧ s.press p = x ∧
      x.context = some c ∧ x.state = .ejecting ∧ x.stroke = some (.pulse ends start false) ∧
      (captured - start).toNat < 2147483648 ∧ captured = start :=
  ⟨cellIn .ejecting, 0, _, _, _, _, 200, cellIn_pins _, rfl, rfl, rfl, rfl, by decide, rfl⟩

theorem witness_StrokePhasesEnd :
    (∃ (s : State) (p : PressId) (x : Press) (ends : Clock) (r : Recipe), PinLaw s ∧ s.press p = x ∧
      x.state = .ejecting ∧ x.stroke = some (.delay ends) ∧ s.recipeOf p = some r ∧
      ¬(x.state = .ejecting ∧ ∃ ends start contact, x.stroke = some (.pulse ends start contact))) ∧
    (∃ (s : State) (p : PressId) (x : Press) (ends start : Clock) (contact : Bool), PinLaw s ∧ s.press p = x ∧
      x.state = .ejecting ∧ x.stroke = some (.pulse ends start contact) ∧
      ¬(x.state = .ejecting ∧ ∃ ends, x.stroke = some (.delay ends))) :=
  ⟨⟨cellWith .ejecting fun x => { x with stroke := some (.delay 100), ejector := false }, 0, _, _, _,
      by unfold PinLaw; decide, rfl, rfl, rfl, rfl, fun ⟨_, _, _, _, h⟩ => by cases h⟩,
    cellIn .ejecting, 0, _, _, _, _, cellIn_pins _, rfl, rfl, rfl, fun ⟨_, _, h⟩ => by cases h⟩

/-- A filter of each row of R1's table: not sampled, equal, no candidate, a candidate below the filter time and at it. -/
theorem witness_InputFilterAcceptsASteadyLevel (sampled : Bool) (candidate : Option Clock) :
    ∃ (s : State) (p : PressId) (f : InputFilter), PinLaw s ∧ (s.press p).filter .closed = f ∧ f.sampled = sampled ∧
      f.level = false ∧ f.candidate = candidate ∧ s.clock = 100 ∧ s.cell.filterTime = 20 :=
  ⟨cellWith .heating fun x => { x with closed := { sampled := sampled, level := false, candidate := candidate } }, 0, _,
    cellWith_pins .heating _ rfl, rfl, rfl, rfl, rfl, rfl, rfl⟩

theorem witness_RecipeWriteStoresAndIsAdopted : ∃ (s : State) (n : SlotId) (w : RecipeWire), PinLaw s ∧ s.link.hand = none ∧
    WireInRange w ∧ ¬InUse s n ∧ (∃ q u, (s.press q).state = .offline ∧ (s.press q).setup = some u ∧ u.slot = n) ∧
    (w.standbyTemp.toInt < 0 ∨ w.baseTemp.toInt < w.standbyTemp.toInt) ∧ ¬(w.maxDuty.toInt < 0 ∨ w.maxDuty.toInt ≤ 1000) :=
  ⟨cellIn .offline, 0, edgeWire, cellIn_pins _, rfl, by unfold WireInRange; decide, cellIn_offline_free, ⟨0, _, rfl, rfl, rfl⟩, by decide, by decide⟩

theorem witness_RecipeAndSetupRequestsAreRefused :
    (∃ s : State, s.link.hand = none ∧ (∃ n : SlotId, s.recipes[n] = none) ∧ (∃ n : SlotId, InUse s n)) ∧
    (∃ b : Byte, 8 ≤ b.toNat ∧ b = 8) ∧
    (∃ (w : RecipeWire) (failed : List (Nat × Nat × Prop)) (range : Prop),
      recipeRanges w = [] ++ (1, 0, range) :: failed ∧ ¬range) ∧
    (∃ (w : RecipeWire) (passed failed : List (Nat × Nat × Prop)) (range : Prop),
      recipeRanges w = passed ++ (5, 8, range) :: failed ∧ (∀ c ∈ passed, c.2.2) ∧ ¬range) ∧
    (∃ (w : RecipeWire) (passed : List (Nat × Nat × Prop)) (range : Prop),
      recipeRanges w = passed ++ [(23, 0, range)] ∧ (∀ c ∈ passed, c.2.2) ∧ ¬range) ∧
    (∃ w : RecipeWire, WireInRange w) ∧
    (∃ (s : State) (p : PressId), s.link.hand = none ∧ (s.press p).state ≠ .offline) ∧
    (∃ (s : State) (p : PressId) (n : SlotId), s.link.hand = none ∧ (s.press p).state = .offline ∧ s.recipes[n] = none) :=
  ⟨⟨cellIn .heating, rfl, ⟨7, rfl⟩, 0, 0, _, rfl, rfl, by decide⟩, ⟨8, by decide, rfl⟩,
    ⟨{ edgeWire with baseTemp := 499 }, _, _, rfl, by decide⟩,
    ⟨{ edgeWire with durations := edgeWire.durations.set 7 3601 },
      (recipeRanges { edgeWire with durations := edgeWire.durations.set 7 3601 }).take 9,
      (recipeRanges { edgeWire with durations := edgeWire.durations.set 7 3601 }).drop 10, _, rfl,
      by simp only [recipeRanges, List.take, List.forall_mem_cons]; simp; decide, by decide⟩,
    ⟨{ edgeWire with rounding := 5 }, (recipeRanges { edgeWire with rounding := 5 }).take 24, _, rfl,
      by simp only [recipeRanges, List.take, List.forall_mem_cons]; simp; decide, by decide⟩,
    ⟨edgeWire, by unfold WireInRange; decide⟩, ⟨cellIn .heating, 0, by decide⟩, State.reset, 0, 7, by decide⟩

theorem witness_RecipeReadReturnsTheRecord :
    (∃ (s : State) (n : SlotId) (r : Recipe), s.link.hand = none ∧ s.recipes[n] = some r) ∧
    (∃ w : RecipeWire, 0 ≤ w.standbyTemp.toInt ∧ w.standbyTemp.toInt ≤ w.baseTemp.toInt ∧
      (∀ z : ZoneId, -200 ≤ w.zoneTrim[z].toInt ∧ w.zoneTrim[z].toInt ≤ 200) ∧
      (∀ k : Fin 8, -500 ≤ offsetValue w.offsets[k] ∧ offsetValue w.offsets[k] ≤ 500 ∧ w.offsets[k] ≠ 0x8000) ∧
      0 ≤ w.maxDuty.toInt ∧ w.maxDuty.toInt ≤ 1000) :=
  ⟨⟨cellIn .offline, 0, _, rfl, rfl⟩, { edgeWire with standbyTemp := 500, maxDuty := 1000 }, by decide⟩

theorem witness_RecipeClearEmptiesTheSlot : ∃ (s : State) (n : SlotId), PinLaw s ∧ s.link.hand = none ∧ ¬InUse s n ∧
    s.recipes[n].isSome ∧ (∃ q u, (s.press q).setup = some u ∧ u.slot = n) :=
  ⟨cellIn .offline, 0, cellIn_pins _, rfl, cellIn_offline_free, rfl, 0, _, rfl, rfl⟩

theorem witness_PressSetupIsTaken : ∃ (s : State) (p : PressId) (x : Press) (n : SlotId) (zones : Byte) (r : Recipe),
    PinLaw s ∧ s.link.hand = none ∧ s.press p = x ∧ x.state = .offline ∧ zones ≠ 0 ∧ s.recipes[n] = some r :=
  ⟨cellIn .offline, 3, _, 0, 0x80, _, cellIn_pins _, rfl, rfl, rfl, by decide, rfl⟩

theorem witness_ZoneModeActsByTheTable :
    (∃ (s : State) (p : PressId) (bound : Nat), PinLaw s ∧ s.link.hand = none ∧
      (∀ r, s.recipeOf p = some r → bound = r.maxDuty) ∧ (s.recipeOf p = none → bound = 1000) ∧ bound = 800 ∧
      s.heat.state ≠ .off ∧ (s.press p).state ≠ .offline ∧ (s.press p).isActive 0 = true ∧
      (s.press p).zones[(0 : ZoneId)].sensor ≠ .fault) ∧
    (∃ (s : State) (p : PressId) (bound : Nat), PinLaw s ∧ s.link.hand = none ∧
      (∀ r, s.recipeOf p = some r → bound = r.maxDuty) ∧ (s.recipeOf p = none → bound = 1000) ∧ bound = 1000) ∧
    (∃ b : Byte, 8 ≤ b.toNat ∧ b = 8) ∧ (∃ code : Byte, 3 ≤ code.toNat ∧ code = 3) :=
  ⟨⟨cellIn .heating, 0, 800, cellIn_pins _, rfl, fun _ h => by cases h; rfl, (fun h => by cases h), rfl, by decide,
      by decide, by decide, by decide⟩,
    ⟨cellIn .heating, 1, 1000, cellIn_pins _, rfl, (fun _ h => by cases h), fun _ => rfl, rfl⟩, ⟨8, by decide, rfl⟩,
    3, by decide, rfl⟩

/-- A zone of an active press in each sensor state, one sample short of its next move, zone 7 among them. -/
theorem witness_ZoneSampleSupervisesTheSensor (sensor : SensorState) (z : ZoneId) :
    (∃ (s : State) (p : PressId) (x : Press) (y : Zone), PinLaw s ∧ s.press p = x ∧ x.zones[z] = y ∧
      y.sensor = sensor ∧ y.badCount = 2 ∧ y.goodCount = 2 ∧ x.isActive z = true ∧ x.state = .curing) ∧
    (∃ sample : ZoneSample, sample.wellFormed = true ∧ sample = .temperature 5000) ∧
    (∃ sample : ZoneSample, sample.wellFormed = true ∧ ∀ v, sample ≠ .temperature v) :=
  ⟨⟨cellWith .curing fun x => { x with
      zones := Vector.replicate 8 { Zone.reset with sensor := sensor, badCount := 2, goodCount := 2 } }, 0, _,
      { Zone.reset with sensor := sensor, badCount := 2, goodCount := 2 },
      cellWith_pins .curing _ rfl, rfl, by simp [cellWith, State.press], rfl, rfl, rfl, pressIn_active .curing z, rfl⟩,
    ⟨.temperature 5000, by decide, rfl⟩, .openCircuit, rfl, by simp⟩

/-- A zone in each mode, zone 7 among them, its press in service with heat, and the pending duty at max_duty with an error
of 1. -/
theorem witness_ZoneSampleSetsTheDuty (mode : ZoneMode) (z : ZoneId) :
    (∃ (s : State) (p : PressId) (x : Press) (y : Zone) (r : Recipe), s.press p = x ∧ x.zones[z] = y ∧
      s.heat.state ≠ .off ∧ x.state ≠ .offline ∧ x.isActive z = true ∧ y.mode = mode ∧ s.recipeOf p = some r ∧
      y.pending = r.maxDuty ∧ max (-2000) (min (x.setpoints[z] - y.lastGood) 2000) = 1 ∧ y.sensor = .good) ∧
    (∃ (s : State) (p : PressId) (x : Press), s.press p = x ∧ s.heat.state = .off) :=
  ⟨⟨cellWith .heating fun x => { x with
      setpoints := Vector.replicate 8 1500
      zones := Vector.replicate 8 { Zone.reset with mode := mode, pending := 800, lastGood := 1499 } }, 0, _,
      { Zone.reset with mode := mode, pending := 800, lastGood := 1499 }, _,
      rfl, by simp [cellWith, State.press], (by simp [cellWith, cellIn]), (by simp [cellWith, pressIn, State.press]),
      pressIn_active .heating z, rfl, rfl, rfl, by simp [cellWith, State.press], rfl⟩, State.reset, 0, _, rfl, rfl⟩

theorem witness_HeaterWindowsSwitchTheHeaters :
    ∃ (s : State) (p : PressId) (x : Press) (start : Clock) (r : Recipe), PinLaw s ∧ s.press p = x ∧
      x.windowStart = some start ∧ s.recipeOf p = some r ∧
      x.zones[(0 : ZoneId)].applied * r.heaterWindow / 1000 < r.heaterWindow ∧
      r.heaterWindow ≤ x.zones[(7 : ZoneId)].applied * r.heaterWindow / 1000 :=
  ⟨cellWith .heating (Press.modZone 7 fun z => { z with applied := 1000 }), 0, _, _, _, by unfold PinLaw; decide, rfl, rfl,
    rfl, by decide, by decide⟩

/-- A press in a state, its readiness and run such that the next scan may turn it, its zones all in a mode. -/
def readyPress (st : PressState) (ready : Bool) (mode : ZoneMode) : State := cellWith st fun x =>
  { x with ready := ready, run := 3, zones := Vector.replicate 8 { Zone.reset with mode := mode, lastGood := 1500 } }

/-- A press at a scan of its profile: the length of segment 1, the time since close, and whether it is frozen. -/
def profilePress (first elapsed : Nat) (frozen : Bool) : State :=
  { cellWith .curing fun x => { x with segment := 1, frozen := frozen } with
      clock := BitVec.ofNat 32 (20 + elapsed)
      recipes := State.reset.recipes.set 0 (some { recipe with durations := recipe.durations.set 0 first }) }

/-- The ends of that profile's segments. -/
def profileEnds (first k : Nat) : Nat := if k = 0 then 0 else if k = 1 then first * 1000 else first * 1000 + 40000

/-- A profile at the last moment of segment 1, at its end, at the end of the last segment, at its 3,600,000 ms, of length 0,
and frozen; and a press without a recipe. -/
theorem witness_SetpointsFollowTheProfile :
    (∀ (first elapsed : Nat) (frozen : Bool),
      ∃ (s : State) (p : PressId) (x : Press) (r : Recipe) (C : Nat → Nat) (c : CycleContext) (close : Clock)
        (length : Nat), s.press p = x ∧ s.recipeOf p = some r ∧ SegmentEnds r C ∧ x.state = .curing ∧ x.context = some c ∧
        c.panel.closeTime = some close ∧ length = profileLength r ∧ x.frozen = frozen ∧ r.durations[0] = first ∧
        s.clock - close = BitVec.ofNat 32 elapsed) ∧
    (29999 < profileEnds 30 1 ∧ profileEnds 30 1 ≤ 30000 ∧ 69999 < profileEnds 30 2 ∧ profileEnds 30 2 ≤ 70000 ∧
      3600000 < profileEnds 3600 2) ∧
    (∃ (s : State) (p : PressId), s.recipeOf p = none) := by
  refine ⟨fun first elapsed frozen => ⟨profilePress first elapsed frozen, 0, _, _, profileEnds first, _, _, _, rfl, rfl,
    ⟨rfl, fun k => ?_⟩, rfl, rfl, rfl, rfl, rfl, rfl, ?_⟩, by decide, State.reset, 0, rfl⟩
  · match k with
    | 0 | 1 | 2 | 3 | 4 | 5 | 6 | 7 => simp [profileEnds, recipe]
  · show BitVec.ofNat 32 (20 + elapsed) - 20 = BitVec.ofNat 32 elapsed
    rw [BitVec.ofNat_add, BitVec.add_comm]
    exact BitVec.add_sub_cancel _ _

/-- Every press state has a press of its own; without a setup there is no recipe. -/
theorem witness_ReadinessCountsPressScans (st : PressState) (ready : Bool) :
    (∃ (s : State) (p : PressId) (x : Press) (r : Recipe), PinLaw s ∧ s.press p = x ∧ s.recipeOf p = some r ∧
      x.state = st ∧ x.ready = ready ∧ r.readyQualify * 4 ≤ x.run + 1 ∧ r.dropQualify * 4 ≤ x.run + 1) ∧
    (∃ (s : State) (p : PressId), PinLaw s ∧ s.recipeOf p = none) :=
  ⟨⟨readyPress st ready .auto, 0, _, _, cellWith_pins st _ rfl, rfl, rfl, rfl, rfl, Nat.le_refl 4, Nat.le_refl 4⟩,
    cellIn .heating, 1, cellIn_pins _, rfl⟩

/-- The press that a scan leaves lies within its band, and does not when no zone counts. -/
theorem witness_ReadinessCountsPressScans_within :
    WithinBand ((after (.zoneSample 0 7 (.temperature 1500)) (readyPress .heating false .auto)).press 0) recipe.readyBand ∧
    ¬WithinBand ((after (.zoneSample 0 7 (.temperature 1500)) (readyPress .chargeWait true .off)).press 0)
      recipe.dropBand := by
  refine ⟨⟨⟨0, ⟨_, rfl, rfl⟩, by decide, by decide⟩, fun z h => by clear h; revert z; decide⟩, ?_⟩
  rintro ⟨⟨z, _, h, _⟩, _⟩
  revert h
  revert z
  decide

/-- A press in each of the two states, at max_close, with its zones counted and with none counted. -/
theorem witness_CureStepsAtPressScans (st : PressState) (h : st = .curing ∨ st = .demouldDue) (mode : ZoneMode) :
    ∃ (s : State) (p : PressId) (x : Press) (c : CycleContext) (r : Recipe) (close : Clock) (span : Nat),
      s.press p = x ∧ x.context = some c ∧ s.recipeOf p = some r ∧ x.state = st ∧ c.panel.closeTime = some close ∧
      span = (s.clock - close).toNat ∧ span = r.maxClose * 1000 := by
  rcases h with rfl | rfl <;>
    exact ⟨{ readyPress _ true mode with clock := 120020 }, 0, _, _, _, _, 120000, rfl, rfl, rfl, rfl, rfl,
      (by decide : 120000 = ((120020 : Clock) - 20).toNat), (by decide : 120000 = 120 * 1000)⟩

theorem witness_RoundingModesSelectTheirInteger : ∃ (num : Int) (den : Nat), 0 < den ∧ 2 * (num % den) = den :=
  ⟨-3, 2, by decide, by decide⟩

theorem witness_HeatPermitGrantsHeat :
    (∃ (s : State) (duration : BitVec 16) (d : Nat), PinLaw s ∧ s.link.hand = none ∧ d = min duration.toNat 600 ∧ 1 ≤ d ∧
      duration = 1 ∧ s.heat.state ≠ .run) ∧
    (∃ (s : State) (duration : BitVec 16) (d : Nat), PinLaw s ∧ s.link.hand = none ∧ d = min duration.toNat 600 ∧ 1 ≤ d ∧
      duration = 65535 ∧ s.heat.state = .run) :=
  ⟨⟨heatIn .off, 1, 1, cellIn_pins .heating, rfl, by decide, by decide, rfl, by decide⟩,
    heatIn .run, 65535, 600, cellIn_pins .heating, rfl, by decide, by decide, rfl, rfl⟩

theorem witness_HeatFallsToStandbyOrOff (h : HeatState) :
    ∃ s : State, PinLaw s ∧ QueueLaw s ∧ PermitLaw s ∧ s.heat.state = h ∧ s.link.hand = none := by
  cases h <;>
    exact ⟨heatIn _, cellIn_pins .heating, by unfold QueueLaw; decide, by unfold PermitLaw; decide, rfl, rfl⟩

theorem witness_CountdownStepsToTheLapse :
    (∃ s : State, s.heat.state = .run ∧ 2 ≤ s.heat.remaining ∧ s.heat.remaining = 6000) ∧
    (∃ s : State, s.heat.state = .run ∧ s.heat.remaining ≤ 1) ∧ (∃ s : State, s.heat.state ≠ .run) :=
  ⟨⟨cellIn .heating, rfl, by decide, rfl⟩, ⟨heatIn .run, rfl, by decide⟩, heatIn .standby, by decide⟩

/-- A cell whose scale is in a state with a run at an anchor. -/
def sampled (st : ScaleState) (count : Nat) (anchor : Int) : State :=
  { scaleIn st count with scale := { (scaleIn st count).scale with anchor := some anchor } }

/-- The premises of a row of the samples' table, on a state and a raw value: `c` is the scale with the sample and its run. -/
def sampleRow (row : Nat) (s : State) (v : BitVec 24) : Bool :=
  let gross := grossMass s.cell.rounding s.scale.settings v.toInt
  let net := netMass s.scale.tare gross
  let c := Scale.updateRun gross { s.scale with lastSample := some (.raw v.toInt gross net), lastRaw := v.toInt }
  let becameStable := decide (c.count = s.scale.count + 1 ∧ c.count = c.settings.qualify)
  match row with
  | 1 => decide (c.state = .emptySettle ∧ c.settings.placeThreshold ≤ net)
  | 2 =>
    decide (c.state = .emptySettle ∧ net < c.settings.placeThreshold ∧ becameStable = true ∧
      (gross.natAbs : Int) ≤ c.settings.tareLimit)
  | 3 =>
    decide (c.state = .emptySettle ∧ net < c.settings.placeThreshold ∧ becameStable = true ∧
      c.settings.tareLimit < (gross.natAbs : Int))
  | 4 => decide (c.state = .emptySettle ∧ net < c.settings.placeThreshold ∧ becameStable = false)
  | 5 => decide (c.state = .empty ∧ c.settings.placeThreshold ≤ net)
  | 6 => decide (c.state = .empty ∧ net < c.settings.placeThreshold)
  | 7 => decide (c.state = .loading ∧ net < c.settings.emptyThreshold)
  | 8 => decide (c.state = .loading ∧ c.settings.emptyThreshold ≤ net ∧ becameStable = false)
  | 9 => decide (c.state = .removeWait ∧ net < c.settings.emptyThreshold)
  | 10 => decide (c.state = .removeWait ∧ c.settings.emptyThreshold ≤ net)
  | _ => decide (c.state = .tareFault)

/-- Each row has a state and a sample, at the bound of its threshold where it has one: with tare 0 and gain 65,536 the net is
the raw value. -/
theorem witness_SamplesMoveTheEmptyScale :
    sampleRow 1 (sampled .emptySettle 9 205) 200 = true ∧ sampleRow 2 (sampled .emptySettle 9 (-495)) (-500) = true ∧
    sampleRow 3 (sampled .emptySettle 9 (-501)) (-501) = true ∧ sampleRow 4 (sampled .emptySettle 9 205) 199 = true ∧
    sampleRow 5 (sampled .empty 9 205) 200 = true ∧ sampleRow 6 (sampled .empty 9 199) 199 = true ∧
    sampleRow 7 (sampled .loading 9 49) 49 = true ∧ sampleRow 8 (sampled .loading 10 50) 50 = true ∧
    sampleRow 9 (sampled .removeWait 9 49) 49 = true ∧ sampleRow 10 (sampled .removeWait 9 50) 50 = true ∧
    sampleRow 11 (sampled .tareFault 9 600) 600 = true := by
  decide

theorem witness_AcceptedChargeOpensTheContext :
    ∃ (s : State) (p : PressId) (rest : List PressId) (x : Press) (u : Setup) (r : Recipe) (v : BitVec 24)
      (gross net : Int) (c : Scale), PinLaw s ∧ QueueLaw s ∧ s.press p = x ∧ s.scale.queue = p :: rest ∧
      x.setup = some u ∧ s.recipes[u.slot] = some r ∧ s.history.exhausted = false ∧ s.history.nextSerial ≤ 4294967295 ∧
      gross = grossMass s.cell.rounding s.scale.settings v.toInt ∧ net = netMass s.scale.tare gross ∧
      c = Scale.updateRun gross { s.scale with lastSample := some (.raw v.toInt gross net), lastRaw := v.toInt } ∧
      s.scale.state = .loading ∧ s.scale.settings.emptyThreshold ≤ net ∧
      c.count = s.scale.count + 1 ∧ c.count = s.scale.settings.qualify ∧ r.chargeMin ≤ net ∧ net ≤ r.chargeMax :=
  ⟨scaleIn .loading 9, 0, [], _, _, _, 12245, _, _, _, cellIn_pins .chargeWait, by unfold QueueLaw; decide, rfl, rfl, rfl,
    rfl, rfl, by decide, rfl, rfl, rfl, rfl, by decide, by decide, by decide, by decide, by decide⟩

/-- A stable charge on an empty queue, with the serials exhausted, below and above the recipe's window. -/
theorem witness_OtherVerdictsHoldTheCharge :
    (∃ (s : State) (v : BitVec 24) (c : Scale),
      c = Scale.updateRun (grossMass s.cell.rounding s.scale.settings v.toInt)
        { s.scale with
          lastSample := some (.raw v.toInt (grossMass s.cell.rounding s.scale.settings v.toInt)
            (netMass s.scale.tare (grossMass s.cell.rounding s.scale.settings v.toInt)))
          lastRaw := v.toInt } ∧
      s.scale.state = .loading ∧ c.count = s.scale.count + 1 ∧ c.count = s.scale.settings.qualify ∧
      s.scale.settings.emptyThreshold ≤ netMass s.scale.tare (grossMass s.cell.rounding s.scale.settings v.toInt) ∧
      s.scale.queue ≠ [] ∧ s.recipeOf 0 = some { recipe with chargeMin := 12246 }) ∧
    (12245 < ({ recipe with chargeMin := 12246 } : Recipe).chargeMin) ∧
    (({ recipe with chargeMax := 12244 } : Recipe).chargeMax < 12245) ∧
    ({ scaleIn .loading 9 with scale := { (scaleIn .loading 9).scale with queue := [] } } : State).scale.queue = [] ∧
    ({ (scaleIn .loading 9).history with exhausted := true } : History).exhausted = true :=
  ⟨⟨{ scaleIn .loading 9 with recipes := State.reset.recipes.set 0 (some { recipe with chargeMin := 12246 }) }, 12245, _,
      rfl, rfl, by decide, by decide, by decide, by decide, rfl⟩, by decide, by decide, rfl, rfl⟩

theorem witness_ScaleRequestsSettleTheScale :
    (∃ s : State, s.link.hand = none ∧ s.scale.state = .removeWait) ∧ (∃ s : State, s.link.hand = none ∧
      s.scale.state = .loading) ∧ (∃ s : State, s.link.hand = none ∧ s.scale.state = .tareFault) ∧
    (∃ (zero gain place empty tareLimit : BitVec 32) (band : BitVec 16) (qualify : Byte),
      failingSetting (settingsOf zero gain band qualify place empty tareLimit) = none ∧ zero.toInt = -8388608 ∧
      gain.toNat = 16777215 ∧ band.toNat = 1000 ∧ qualify.toNat = 50 ∧ place.toInt = 8388607 ∧ empty.toInt = 8388606 ∧
      tareLimit.toInt = 100000) ∧
    failingSetting (settingsOf 0 1 1 2 2 1 0) = some 4 ∧ failingSetting (settingsOf 0 1 1 3 1 1 0) = some 6 :=
  ⟨⟨scaleIn .removeWait 9, rfl, rfl⟩, ⟨scaleIn .loading 9, rfl, rfl⟩, ⟨scaleIn .tareFault 9, rfl, rfl⟩,
    ⟨BitVec.ofInt 32 (-8388608), 16777215, 8388607, 8388606, 100000, 1000, 50, by decide⟩, by decide, by decide⟩

theorem witness_HistoryAckReleasesHeldPresses :
    (∃ (s : State) (serial : BitVec 32) (j k : Nat) (a : PartRecord) (admits : PressId → Bool), s.link.hand = none ∧
      PinLaw s ∧ CycleLaw s ∧ (∀ p, admits p = true ↔ Admissible s p) ∧ admits 0 = true ∧
      s.history.records[j]? = some a ∧ a.serial = serial.toNat ∧
      (∀ i b, i < j → s.history.records[i]? = some b → b.serial ≠ serial.toNat) ∧
      k = min (j + 1) s.history.waitList.length ∧ k = 1) ∧
    (∃ (s : State) (serial : BitVec 32), s.link.hand = none ∧ ∀ a ∈ s.history.records, a.serial ≠ serial.toNat) :=
  ⟨⟨cellIn .commitHeld, 2, 0, 1, record 2, _, rfl, cellIn_pins _, cellIn_cycle _, State.admits_iff _, rfl, rfl, rfl, by simp, rfl, rfl⟩,
    cellIn .commitHeld, 0, rfl, by decide⟩

theorem witness_StatusRequestsOnlyReport :
    (∃ s : State, s.link.hand = none ∧ s.scale.queue.length ≤ 4 ∧ s.history.waitList.length ≤ 4) ∧
    (∃ (s : State) (position : Byte) (a : PartRecord), s.link.hand = none ∧ s.history.records[position.toNat]? = some a ∧
      position = 63) ∧
    (∃ (s : State) (position : Byte), s.link.hand = none ∧ s.history.records.length ≤ position.toNat ∧ position = 64) :=
  ⟨⟨cellIn .commitHeld, rfl, by decide, by decide⟩, ⟨cellIn .commitHeld, 63, record 3, rfl, rfl, rfl⟩,
    cellIn .commitHeld, 64, rfl, by decide, rfl⟩

/-- A controller with levels 4 and 11 requested and unmasked, level 4 in service or not. -/
def requesting (inService : Bool) : State :=
  { State.reset with attention := { State.reset.attention with
      levels := (State.reset.attention.levels.set 4
        { condition := true, edge := true, request := true, armed := false, masked := false, inService := inService }).set 11
        { condition := true, edge := false, request := true, armed := true, masked := false, inService := false } } }

theorem witness_PollGrantsTheHighestLevel :
    (∃ (s : State) (l : LevelId), s.link.hand = none ∧ s.attention.presentable l = true ∧
      ∀ m, s.attention.presentable m = true → rank s.attention.lowest l ≤ rank s.attention.lowest m) ∧
    (∃ s : State, s.link.hand = none ∧ ∀ l, s.attention.presentable l = false) :=
  ⟨⟨requesting false, 4, rfl, by decide, by decide⟩, State.reset, rfl, by decide⟩

theorem witness_EndServiceEndsOneLevel :
    (∃ (s : State) (l : LevelId), s.link.hand = none ∧ s.attention.levels[l].inService = true ∧
      s.attention.levels[l].masked = false ∧
      ∀ m : LevelId, s.attention.levels[m].inService = true → s.attention.levels[m].masked = false →
        rank s.attention.lowest l ≤ rank s.attention.lowest m) ∧
    (∃ (s : State) (l : LevelId) (level : Byte), s.link.hand = none ∧ level = numberByte l ∧
      s.attention.levels[l].inService = false) ∧
    (∃ (s : State) (rotateCode : Byte), s.link.hand = none ∧ rotateCode.toNat ≤ 1 ∧ rotateCode = 1 ∧
      ∀ m : LevelId, s.attention.levels[m].inService = true → s.attention.levels[m].masked = true) ∧
    (∃ (form level rotateCode : Byte), 1 < form.toNat ∧ 12 ≤ level.toNat ∧ level = 12 ∧ 1 < rotateCode.toNat) :=
  ⟨⟨requesting true, 4, rfl, by decide, by decide, by decide⟩, ⟨requesting true, 11, 11, rfl, rfl, by decide⟩,
    ⟨State.reset, 1, rfl, by decide, rfl, by decide⟩, 2, 12, 2, by decide⟩

theorem witness_SetLowestTurnsTheRing : ∃ (s : State) (b : Byte), s.link.hand = none ∧ 12 ≤ b.toNat ∧ b = 12 :=
  ⟨State.reset, 12, rfl, by decide, rfl⟩

/-- A level turns to EDGE, one turns back, and one stays, at the greatest mask and edge sets. -/
theorem witness_AttnSetupWritesTheSetup :
    (∃ (s : State) (mask edge : BitVec 16) (nesting autoEnd rotate : Byte), s.link.hand = none ∧ mask.toNat < 4096 ∧
      edge.toNat < 4096 ∧ nesting.toNat ≤ 1 ∧ autoEnd.toNat ≤ 1 ∧ rotate.toNat ≤ 1 ∧ mask = 4095 ∧
      (∃ l : LevelId, edge.getLsbD l = true ∧ s.attention.levels[l].edge = false) ∧
      (∃ l : LevelId, edge.getLsbD l = false ∧ s.attention.levels[l].edge = true) ∧
      (∃ l : LevelId, edge.getLsbD l = s.attention.levels[l].edge)) ∧
    (∃ w : BitVec 16, 4096 ≤ w.toNat ∧ w = 4096) ∧ (∃ b : Byte, 1 < b.toNat ∧ b = 2) :=
  ⟨⟨requesting false, 4095, 0x800, 1, 1, 1, rfl, by decide, by decide, by decide, by decide, by decide, rfl,
      ⟨11, by decide⟩, ⟨4, by decide⟩, 0, by decide⟩, ⟨4096, by decide, rfl⟩, 2, by decide, rfl⟩

/-- Each case of a level's request: LEVEL mode, a rise, a fall and no change in EDGE mode; and the levels of press 3. -/
theorem witness_RequestsFollowTheTriggerMode :
    (∃ k : Level, k.edge = false) ∧ (∃ k : Level, k.edge = true ∧ k.condition = false ∧ k.armed = true) ∧
    (∃ k : Level, k.edge = true ∧ k.condition = true) ∧
    (∃ (p : PressId) (l : LevelId), l.val = 4 + p.val ∧ p = 3) ∧ (∃ (p : PressId) (l : LevelId), l.val = 8 + p.val ∧ p = 3) :=
  ⟨⟨.reset, rfl⟩, ⟨{ Level.reset with edge := true }, rfl, rfl, rfl⟩,
    ⟨{ Level.reset with edge := true, condition := true }, rfl, rfl⟩, ⟨3, 7, rfl, rfl⟩, 3, 11, rfl, rfl⟩

/-! The laws that every step keeps, each met by a state with a step before it. -/

theorem witness_PinsFollowTheStates : ∃ s t : State, PinLaw s ∧ step s = .next t :=
  ⟨{ cellIn .ejecting with pending := [.pulseEnd 0] }, _, cellIn_pins .ejecting, rfl⟩

theorem witness_AttentionFollowsTheConditions : ∃ s t : State, AttentionLaw s ∧ step s = .next t :=
  ⟨{ (cellIn .chargeReady).settle with pending := [.closedRise 0 5] }, _, by unfold AttentionLaw; decide +kernel, rfl⟩

theorem witness_PressesKeepTheirPlaces : ∃ s t : State, CycleLaw s ∧ step s = .next t :=
  ⟨{ cellIn .commitHeld with pending := [.historyAck 2] }, _, cellIn_cycle .commitHeld, rfl⟩

theorem witness_SerialsStayUnique : ∃ s t : State, SerialLaw s ∧ step s = .next t :=
  ⟨{ cellIn .unloadWait with pending := [.partClearRise 0 5] }, _, by unfold SerialLaw; decide, rfl⟩

theorem witness_PlatensStayWithinTheRecipe : ∃ s t : State, CycleLaw s ∧ PlatenLaw s ∧ SetpointLaw s ∧ step s = .next t :=
  ⟨{ heatedCell with pending := [.zoneSample 0 0 (.temperature 1450)] }, _, heatedCell_cycle, heatedCell_platens,
    by unfold SetpointLaw; decide, rfl⟩

theorem witness_UnitsKeepTheirLaws : ∃ s t : State, PermitLaw s ∧ ScaleLaw s ∧ LinkLaw s ∧ step s = .next t :=
  ⟨{ scaleIn .loading 9 with pending := [.loadCellSample (.raw 12245)] }, _, by unfold PermitLaw; decide,
    by unfold ScaleLaw; decide, by unfold LinkLaw; decide, rfl⟩

end Sys2Proof.Tests
end

/-! SUPPORT. What a converter sample does to its zone: the press scan leaves every zone alone, the sensor's table moves no
duty, and the pending duty follows from hold-off, mode and control law. -/

namespace Sys2Proof.Machine

/-! ## The press scan keeps the zones -/

section Scan

variable (s : State) (p : PressId)

/-- A change of a press that keeps its zones, read at that press. -/
theorem State.modPress_zones {f : Press → Press} (h : (f (s.press p)).zones = (s.press p).zones) :
    ((s.modPress p f).press p).zones = (s.press p).zones := by
  simp [h]

@[simp] theorem State.evaluateAdmission_zones : ((s.evaluateAdmission p).press p).zones = (s.press p).zones := by
  rcases s.evaluateAdmission_spec p with ⟨-, -, e⟩ | ⟨-, e⟩
  · rw [e]; exact s.modPress_zones p rfl
  · rw [e]

@[simp] theorem State.withdraw_zones : ((s.withdraw p).press p).zones = (s.press p).zones := by
  unfold State.withdraw State.enterHeating
  rw [State.evaluateAdmission_zones, State.modPress_zones _ _ (Press.enter_zones _ _), State.leaveQueue_press]

@[simp] theorem Press.moveProfile_zones (x : Press) (r : Recipe) (now close : Clock) :
    (x.moveProfile r now close).zones = x.zones := by
  unfold Press.moveProfile
  split <;> rfl

@[simp] theorem State.profileScan_zones : ((s.profileScan p).press p).zones = (s.press p).zones := by
  unfold State.profileScan
  split
  · split
    · exact s.modPress_zones p (by simp [Press.raiseSegment])
    · rfl
  · rfl

@[simp] theorem State.recomputeSetpoints_zones : ((s.recomputeSetpoints p).press p).zones = (s.press p).zones :=
  s.modPress_zones p rfl

/-- A flag that is added in some cases keeps the zones. -/
@[simp] theorem Press.addFlag_ite_zones (c : Bool) (x : Press) (f : RecordFlags → RecordFlags) :
    (if c then x.addFlag f else x).zones = x.zones := by
  cases c <;> rfl

/-- A turn of readiness marks the press, and may then withdraw or admit it; none of these touches a zone (R74, R77). -/
@[simp] theorem State.turnReadiness_zones : ((s.turnReadiness p).press p).zones = (s.press p).zones := by
  unfold State.turnReadiness
  dsimp only
  split
  · split <;> simp
  · simp

@[simp] theorem State.readinessScan_zones : ((s.readinessScan p).press p).zones = (s.press p).zones := by
  unfold State.readinessScan
  dsimp only
  split
  · simp
  · split_ifs <;> simp

@[simp] theorem State.deviationScan_zones : ((s.deviationScan p).press p).zones = (s.press p).zones := by
  unfold State.deviationScan
  split
  · exact s.modPress_zones p rfl
  · rfl

@[simp] theorem Press.cureStep_zones (x : Press) (cell : RoundingMode) (r : Recipe) (now : Clock) (c : CycleContext) :
    (x.cureStep cell r now c).zones = x.zones := by
  unfold Press.cureStep
  dsimp only
  split <;> rfl

@[simp] theorem State.cureScan_zones : ((s.cureScan p).press p).zones = (s.press p).zones := by
  unfold State.cureScan
  split
  · split
    · exact s.modPress_zones p (Press.cureStep_zones ..)
    · rfl
  · rfl

/-- No part of a press scan touches a zone (R43). -/
@[simp] theorem State.pressScan_zones : ((s.pressScan p).press p).zones = (s.press p).zones := by
  simp [State.pressScan]

end Scan

/-! ## The zone before its pending duty is set -/

section Sampled

variable (y : Zone) (v : ZoneSample)

/-- A sample is recorded in the last sample and the last good temperature alone (R42). -/
theorem Zone.record_spec : ∃ last temperature, y.record v = { y with lastSample := last, lastGood := temperature } := by
  cases v <;> exact ⟨_, _, rfl⟩

/-- The sensor moves in its state and its two counts alone (R44). -/
theorem Zone.supervise_spec (good : Bool) :
    ∃ sensor bad count, y.supervise good = { y with sensor := sensor, badCount := bad, goodCount := count } := by
  unfold Zone.supervise
  split
  case h_4 | h_5 => split <;> exact ⟨_, _, _, rfl⟩
  all_goals exact ⟨_, _, _, rfl⟩

/-- What a sample can make of a zone before its pending duty is set: the sensor's fields are new, and the zone is held off
when it enters FAULT, and not otherwise (R42, R44, R47). -/
theorem Zone.sampled_spec : ∃ sensor bad count last temperature, ∃ u : Zone,
    u = { y with
      sensor := sensor, badCount := bad, goodCount := count, lastSample := last, lastGood := temperature } ∧
    ((sensor = .fault ∧ y.sensor ≠ .fault ∧ y.sampled v = u.holdOff) ∨
      (¬(sensor = .fault ∧ y.sensor ≠ .fault) ∧ y.sampled v = u)) := by
  obtain ⟨last, temperature, hr⟩ := y.record_spec v
  obtain ⟨sensor, bad, count, hs⟩ := (y.record v).supervise_spec (goodSample v)
  refine ⟨sensor, bad, count, last, temperature, _, rfl, ?_⟩
  unfold Zone.sampled
  rw [hs, hr]
  dsimp only
  split
  next h => exact .inl ⟨h.1, h.2, rfl⟩
  next h => exact .inr ⟨h, rfl⟩

@[simp] theorem Zone.sampled_mode : (y.sampled v).mode = y.mode := by
  obtain ⟨_, _, _, _, _, _, rfl, ⟨-, -, e⟩ | ⟨-, e⟩⟩ := y.sampled_spec v <;> simp [e]

@[simp] theorem Zone.sampled_manual : (y.sampled v).manual = y.manual := by
  obtain ⟨_, _, _, _, _, _, rfl, ⟨-, -, e⟩ | ⟨-, e⟩⟩ := y.sampled_spec v <;> simp [e]

/-- An entry into FAULT drops the applied duty and the heater at once (R47). -/
theorem Zone.sampled_of_enters_fault (after : (y.sampled v).sensor = .fault) (before : y.sensor ≠ .fault) :
    (y.sampled v).applied = 0 ∧ (y.sampled v).heater = false := by
  obtain ⟨_, _, _, _, _, _, rfl, ⟨-, -, e⟩ | ⟨h, e⟩⟩ := y.sampled_spec v
  · simp [e]
  · exact absurd ⟨by simpa [e] using after, before⟩ h

/-- Without an entry into FAULT the duties stand as they were until the pending duty is set. -/
theorem Zone.sampled_of_not_enters_fault (h : ¬((y.sampled v).sensor = .fault ∧ y.sensor ≠ .fault)) :
    (y.sampled v).pending = y.pending ∧ (y.sampled v).integral = y.integral ∧ (y.sampled v).applied = y.applied ∧
      (y.sampled v).heater = y.heater := by
  obtain ⟨_, _, _, _, _, _, rfl, ⟨after, before, e⟩ | ⟨-, e⟩⟩ := y.sampled_spec v
  · exact absurd ⟨by simpa [e] using after, before⟩ h
  · simp [e]

end Sampled

/-! ## The control law -/

section Law

variable (r : Recipe) (setpoint : Int) (y : Zone)

/-- The integral the law leaves, in the terms of R49 and R50. -/
theorem Zone.controlLaw_integral {e : Int} (he : e = max (-2000) (min (setpoint - y.lastGood) 2000)) :
    (y.controlLaw r setpoint).integral =
      if (y.pending = r.maxDuty ∧ 0 < e) ∨ (y.pending = 0 ∧ e < 0) then y.integral
      else max 0 (min (y.integral + e * r.ki) 256000) := by
  subst he; rfl

/-- The output of the law is its clamped sum, never below 0 (R51). -/
theorem lawOutput_eq (p i : Int) (maxDuty : Nat) :
    (lawOutput p i maxDuty : Int) = max 0 (min (p + Int.fdiv i 256) maxDuty) := by
  rw [Int.fdiv_eq_ediv_of_nonneg i (by decide)]
  exact Int.toNat_of_nonneg (le_max_left ..)

/-- The pending duty the law leaves, in the terms of R49 and R51. -/
theorem Zone.controlLaw_pending {e : Int} (he : e = max (-2000) (min (setpoint - y.lastGood) 2000)) :
    ((y.controlLaw r setpoint).pending : Int) =
      max 0 (min (Int.tdiv (e * r.kp) 16 + Int.fdiv (y.controlLaw r setpoint).integral 256) r.maxDuty) := by
  subst he; exact lawOutput_eq ..

end Law

/-! ## The pending duty -/

section Pending

variable (held : Bool) (recipe : Option Recipe) (setpoint : Int) (y : Zone)

/-- Setting the pending duty moves the pending duty and the integral alone (R48). -/
theorem Zone.setPending_spec :
    ∃ pending integral, y.setPending held recipe setpoint = { y with pending := pending, integral := integral } := by
  unfold Zone.setPending
  split
  · exact ⟨_, _, rfl⟩
  · split <;> exact ⟨_, _, rfl⟩

@[simp] theorem Zone.setPending_sensor : (y.setPending held recipe setpoint).sensor = y.sensor := by
  obtain ⟨_, _, e⟩ := y.setPending_spec held recipe setpoint
  rw [e]

@[simp] theorem Zone.setPending_lastGood : (y.setPending held recipe setpoint).lastGood = y.lastGood := by
  obtain ⟨_, _, e⟩ := y.setPending_spec held recipe setpoint
  rw [e]

@[simp] theorem Zone.setPending_applied : (y.setPending held recipe setpoint).applied = y.applied := by
  obtain ⟨_, _, e⟩ := y.setPending_spec held recipe setpoint
  rw [e]

@[simp] theorem Zone.setPending_heater : (y.setPending held recipe setpoint).heater = y.heater := by
  obtain ⟨_, _, e⟩ := y.setPending_spec held recipe setpoint
  rw [e]

/-- A zone held off has no pending duty and no integral (R47). -/
@[simp] theorem Zone.setPending_held :
    y.setPending true recipe setpoint = { y with pending := 0, integral := 0 } := rfl

theorem Zone.setPending_manual (h : y.mode = .manual) :
    y.setPending false recipe setpoint = { y with pending := y.manual } := by
  cases recipe <;> simp [Zone.setPending, h]

theorem Zone.setPending_auto (r : Recipe) (h : y.mode = .auto) :
    y.setPending false (some r) setpoint = y.controlLaw r setpoint := by
  simp [Zone.setPending, h]

end Pending

/-! ## The sample of a press -/

section Sample

variable (x : Press) (z : ZoneId) (heat : HeatState) (recipe : Option Recipe) (v : ZoneSample)

theorem Press.heldOff_iff : x.heldOff heat z = true ↔
    heat = .off ∨ x.state = .offline ∨ x.isActive z = false ∨ x.zones[z].mode = .off ∨ x.zones[z].sensor = .fault := by
  simp [Press.heldOff, or_assoc]

/-- A changed zone leaves the active zone set as it was (R37). -/
@[simp] theorem Press.modZone_isActive (w : ZoneId) (f : Zone → Zone) : (x.modZone w f).isActive z = x.isActive z := rfl

/-- The hold-off causes of a zone that has taken its sample: those of its press and its mode, and the sensor state the
sample has left (R47). -/
theorem Press.sampled_heldOff_iff : (x.modZone z (Zone.sampled v)).heldOff heat z = true ↔
    heat = .off ∨ x.state = .offline ∨ x.isActive z = false ∨ x.zones[z].mode = .off ∨
      (x.zones[z].sampled v).sensor = .fault := by
  simp only [Press.heldOff_iff, Press.modZone_zone_self, Press.modZone_state, Press.modZone_isActive, Zone.sampled_mode]

/-- A zone takes the sample, and then sets its pending duty on its own standing setpoint. The flags that a move of the
sensor raises in between change nothing of it (R44, R46, R48). -/
theorem Press.zoneSample_zone : (x.zoneSample heat recipe z v).zones[z] =
    (x.zones[z].sampled v).setPending ((x.modZone z (Zone.sampled v)).heldOff heat z) recipe x.setpoints[z] := by
  unfold Press.zoneSample
  dsimp only
  rw [Press.modZone_zone_self]
  split <;> split <;> exact congrArg (Zone.setPending _ _ _) (Press.modZone_zone_self ..)

end Sample

/-- The zone that a sample leaves in its press: the press scan after zone 7's and the end of the event leave it so (R43). -/
theorem State.sampleZone_zone (s : State) (p : PressId) (z : ZoneId) (v : ZoneSample) :
    ((s.sampleZone p z v).press p).zones[z] =
      ((s.press p).zones[z].sampled (deliveredSample v)).setPending
        (((s.press p).modZone z (Zone.sampled (deliveredSample v))).heldOff s.heat.state z) (s.recipeOf p)
        (s.press p).setpoints[z] := by
  have zones : ((s.sampleZone p z v).press p).zones =
      ((s.press p).zoneSample s.heat.state (s.recipeOf p) z (deliveredSample v)).zones := by
    unfold State.sampleZone
    dsimp only
    rw [State.settle_press]
    split <;> simp
  rw [← Press.zoneSample_zone]
  simp only [zones]

/-! ## The obligation -/

theorem exec_zoneSample (s : State) (p : PressId) (z : ZoneId) (v : ZoneSample) :
    exec (.zoneSample p z v) s = .next (s.sampleZone p z v) := rfl

/-- Settles O35: the zone left is the sampled one with its pending duty set, and each clause reads a field of it, by whether
FAULT was entered, by the hold-off causes and by the mode. -/
theorem zoneSampleSetsTheDuty : Obligations.ZoneSampleSetsTheDuty := by
  unfold Obligations.ZoneSampleSetsTheDuty
  rintro s p x z y v rfl rfl -
  refine ⟨_, _, exec_zoneSample s p z v, s.sampleZone_zone p z v, ?_⟩
  have held_iff := (s.press p).sampled_heldOff_iff z s.heat.state (deliveredSample v)
  generalize ((s.press p).modZone z (Zone.sampled (deliveredSample v))).heldOff s.heat.state z = held at held_iff ⊢
  generalize (s.press p).zones[z] = y at held_iff ⊢
  generalize deliveredSample v = v at held_iff ⊢
  simp only [Zone.setPending_sensor, Zone.setPending_lastGood, Zone.setPending_applied, Zone.setPending_heater]
  refine ⟨fun after before => ?entry, fun h => ?noEntry, fun cause => ?held, fun hot inService active sound => ?driven⟩
  case entry =>
    obtain ⟨applied, heater⟩ := y.sampled_of_enters_fault v after before
    obtain rfl : held = true := held_iff.2 (by simp [after])
    simp [applied, heater]
  case noEntry =>
    obtain ⟨-, -, applied, heater⟩ := y.sampled_of_not_enters_fault v h
    exact ⟨applied, heater⟩
  case held =>
    obtain rfl : held = true := held_iff.2 cause
    simp
  case driven =>
    obtain ⟨pending, integral, -, -⟩ := y.sampled_of_not_enters_fault v fun h => sound h.1
    have notHeld (h : y.mode ≠ .off) : held = false := by
      simpa [hot, inService, active, sound, h] using held_iff
    refine ⟨fun manual => ?_, fun r e auto recipe he => ?_⟩
    · rw [notHeld (by simp [manual]), Zone.setPending_manual _ _ _ (by simpa using manual)]
      exact ⟨y.sampled_manual v, integral⟩
    · rw [notHeld (by simp [auto]), recipe, Zone.setPending_auto _ _ _ (by simpa using auto), ← pending, ← integral]
      exact ⟨Zone.controlLaw_integral _ _ _ he, Zone.controlLaw_pending _ _ _ he⟩

end Sys2Proof.Machine

/-! SUPPORT. A RAW sample that makes the run stable in LOADING is judged, and a charge that is not accepted stays on the
scale with its verdict: the rows of the verdict one by one, and what holding a verdict changes (R113, R115). -/

namespace Sys2Proof.Machine

/-! ## The stability run -/

section Run

variable (gross : Int) (c : Scale)

/-- The update of the run moves the anchor and the count alone (R105). -/
theorem Scale.updateRun_spec : ∃ anchor count, c.updateRun gross = { c with anchor := anchor, count := count } := by
  unfold Scale.updateRun
  split
  · split <;> exact ⟨_, _, rfl⟩
  · exact ⟨_, _, rfl⟩

@[simp] theorem Scale.updateRun_settings : (c.updateRun gross).settings = c.settings := by
  obtain ⟨_, _, e⟩ := c.updateRun_spec gross
  rw [e]

@[simp] theorem Scale.updateRun_state : (c.updateRun gross).state = c.state := by
  obtain ⟨_, _, e⟩ := c.updateRun_spec gross
  rw [e]

@[simp] theorem Scale.updateRun_stale : (c.updateRun gross).stale = c.stale := by
  obtain ⟨_, _, e⟩ := c.updateRun_spec gross
  rw [e]

@[simp] theorem Scale.updateRun_queue : (c.updateRun gross).queue = c.queue := by
  obtain ⟨_, _, e⟩ := c.updateRun_spec gross
  rw [e]

end Run

theorem becameStable_iff (before after : Scale) : becameStable before after = true ↔
    before.count + 1 = after.settings.qualify ∧ after.count = after.settings.qualify := by
  simp [becameStable]

/-! ## The rows of the verdict -/

section Verdict

variable {s : State} {mass : Int} {p : PressId} {rest : List PressId} {r : Recipe}

theorem judgeCharge_of_noClaim (queue : s.scale.queue = []) : judgeCharge s mass = .noClaim := by
  simp [judgeCharge, queue]

theorem judgeCharge_of_exhausted (queue : s.scale.queue ≠ []) (exhausted : s.history.exhausted = true) :
    judgeCharge s mass = .noSerial := by
  obtain ⟨p, rest, queue⟩ := List.exists_cons_of_ne_nil queue
  simp [judgeCharge, queue, exhausted]

/-- With a claim and a serial, the mass is judged by the window of the head press's recipe (R113). -/
theorem judgeCharge_of_recipe (queue : s.scale.queue = p :: rest) (serial : s.history.exhausted = false)
    (recipe : s.recipeOf p = some r) : judgeCharge s mass =
      if mass < r.chargeMin then .under else if r.chargeMax < mass then .over else .accept := by
  simp [judgeCharge, queue, serial, recipe]

/-- The verdict reads of the scale its queue alone (R113). -/
theorem judgeCharge_setScale {c : Scale} (queue : c.queue = s.scale.queue) :
    judgeCharge { s with scale := c } mass = judgeCharge s mass := by
  unfold judgeCharge
  dsimp only
  rw [queue]
  rfl

/-- A charge that is not accepted: the scale alone changes, and it holds the verdict with the head press. NO_CLAIM names no
press, and so has an empty queue here (R113, R115; log 19). -/
theorem State.verdictEvent_of_not_accept {verdict : Verdict} (judged : judgeCharge s mass = verdict)
    (notAccept : verdict ≠ .accept) (noClaim : verdict = .noClaim → s.scale.queue = []) :
    s.verdictEvent mass = { s with
      scale := s.scale.hold
        { verdict := verdict, mass := mass, time := s.clock, press := s.scale.queue.head?, serial := none,
          tareStale := s.scale.stale } } := by
  unfold State.verdictEvent
  rw [judged]
  cases verdict with
  | noClaim => rw [noClaim rfl]; rfl
  | accept => exact absurd rfl notAccept
  | _ => rfl

end Verdict

/-! ## A sample in LOADING -/

section Sample

variable {s : State}

/-- A charge that has just become stable in LOADING, at the empty threshold or above, is judged (R110). -/
theorem State.rawRule_of_stableCharge {gross net : Int} (loading : s.scale.state = .loading)
    (present : s.scale.settings.emptyThreshold ≤ net) : s.rawRule gross net true = s.verdictEvent net := by
  simp [State.rawRule, loading, not_lt.2 present]

/-- The sample at which a charge becomes stable in LOADING is the verdict event on its net (R105, R110). -/
theorem State.sampleScale_of_stableCharge {v : BitVec 24} {gross net : Int} {c : Scale}
    (hgross : gross = grossMass s.cell.rounding s.scale.settings v.toInt) (hnet : net = netMass s.scale.tare gross)
    (hc : c = Scale.updateRun gross { s.scale with lastSample := some (.raw v.toInt gross net), lastRaw := v.toInt })
    (loading : s.scale.state = .loading) (present : s.scale.settings.emptyThreshold ≤ net)
    (counted : c.count = s.scale.count + 1) (qualified : c.count = s.scale.settings.qualify) :
    s.sampleScale (.raw v) = (({ s with scale := c } : State).verdictEvent net).settle := by
  have settings : c.settings = s.scale.settings := by simp [hc]
  have state : c.state = s.scale.state := by simp [hc]
  have stable : becameStable s.scale c = true :=
    (becameStable_iff ..).2 (by rw [settings]; exact ⟨counted.symm.trans qualified, qualified⟩)
  have sampled : s.sampleScale (.raw v) =
      (({ s with scale := c } : State).rawRule gross net (becameStable s.scale c)).settle := by
    subst hc hnet hgross; rfl
  rw [sampled, stable, State.rawRule_of_stableCharge (state.trans loading) (by rwa [settings])]

/-- A change of the scale and the end of the event change the scale and the attention controller alone. -/
theorem State.setScale_settle_onlyChanges (c : Scale) :
    OnlyChanges [.scale, .attention] s ({ s with scale := c } : State).settle := by
  refine OnlyChanges.settle ⟨rfl, fun b hb => ?_⟩ (by simp)
  cases b <;> simp_all [State.keeps]

end Sample

/-! ## The obligation -/

theorem exec_loadCellSample (sample : LoadSample) (s : State) :
    exec (.loadCellSample sample) s = .next (s.sampleScale sample) := rfl

/-- Settles O46: the sample is the verdict event on the sampled scale, whose queue is that of the state before; each of the
four rows is judged as it says, and none of them is ACCEPT. -/
theorem otherVerdictsHoldTheCharge : Obligations.OtherVerdictsHoldTheCharge := by
  unfold Obligations.OtherVerdictsHoldTheCharge
  intro s v gross net c verdict hgross hnet hc loading present counted qualified rows
  have queue : c.queue = s.scale.queue := by simp [hc]
  have stale : c.stale = s.scale.stale := by simp [hc]
  obtain ⟨judged, notAccept, noClaim⟩ : judgeCharge s net = verdict ∧ verdict ≠ .accept ∧
      (verdict = .noClaim → s.scale.queue = []) := by
    rcases rows with ⟨empty, rfl⟩ | ⟨claimed, exhausted, rfl⟩ | ⟨p, rest, r, claim, serial, recipe, below, rfl⟩ |
      ⟨p, rest, r, claim, serial, recipe, least, above, rfl⟩
    · exact ⟨judgeCharge_of_noClaim empty, nofun, fun _ => empty⟩
    · exact ⟨judgeCharge_of_exhausted claimed exhausted, nofun, nofun⟩
    · exact ⟨by rw [judgeCharge_of_recipe claim serial recipe, if_pos below], nofun, nofun⟩
    · exact ⟨by rw [judgeCharge_of_recipe claim serial recipe, if_neg (not_lt.2 least), if_pos above], nofun, nofun⟩
  refine ⟨_, exec_loadCellSample _ s, ?_⟩
  rw [State.sampleScale_of_stableCharge hgross hnet hc loading present counted qualified,
    State.verdictEvent_of_not_accept ((judgeCharge_setScale queue).trans judged) notAccept (queue.trans ∘ noClaim)]
  refine ⟨State.setScale_settle_onlyChanges _, State.settle_handsOn rfl, ?_⟩
  simp [Scale.hold, queue, stale]

end Sys2Proof.Machine

/-! SUPPORT. The release of held presses written as one update of the state, and the answer of HISTORY_ACK (R22, R130,
R138). -/

namespace Sys2Proof.Machine

/-! ## One press released -/

/-- A press as its release leaves it: it holds no context, and it is in CHARGE_WAIT when admission passes and in HEATING
otherwise (R22, R78). -/
def Press.release (admitted : Bool) (x : Press) : Press :=
  { x with context := none, state := if admitted = true then .chargeWait else .heating }

/-- A press that has given up its context (R21). -/
def Press.withoutContext (x : Press) : Press := { x with context := none }

/-- A press as it waits in COMMIT_HELD: with its context, its forced level and its outputs off. -/
structure Press.IsHeld (x : Press) : Prop where
  state : x.state = .commitHeld
  context : x.context.isSome
  openPermit : x.openPermit = false
  ejector : x.ejector = false
  forced : x.forced = false

/-- The presses on the commit wait list are held (R3, R24, R129). -/
theorem isHeld_of_mem_waitList {s : State} {p : PressId} (pins : PinLaw s) (cycle : CycleLaw s)
    (waits : p ∈ s.history.waitList) : (s.press p).IsHeld := by
  obtain ⟨-, contexts, -, -, waitList, -⟩ := cycle
  have state := (waitList p).1 waits
  obtain ⟨openPermit, ejector, forced⟩ : (s.press p).openPermit = false ∧ (s.press p).ejector = false ∧
      (s.press p).forced = false := by simpa [state] using pins p
  exact ⟨state, (contexts p).1.2 (by simp [state, PressState.holdsContext]), openPermit, ejector, forced⟩

/-- A released press keeps its outputs off (R3). -/
theorem Press.IsHeld.drive_release {x : Press} (held : x.IsHeld) (admitted : Bool) :
    (x.release admitted).drive = x.release admitted := by
  cases admitted <;>
    simp [Press.release, Press.drive, Press.ejectorLevel, held.forced, held.openPermit, held.ejector]

/-- A held press that loses its context and enters HEATING is released without admission (R21). -/
theorem Press.IsHeld.enter_heating {x : Press} (held : x.IsHeld) :
    (x.withoutContext.drive.enter .heating).drive = x.release false := by
  rw [← held.drive_release]
  simp [Press.release, Press.withoutContext, Press.enter, Press.drive, Press.ejectorLevel, held.forced]

/-- On from HEATING to CHARGE_WAIT, it is released with admission (R78). -/
theorem Press.IsHeld.enter_chargeWait {x : Press} (held : x.IsHeld) :
    ((x.release false).enter .chargeWait).drive = x.release true := by
  rw [← held.drive_release true]
  simp [Press.release, Press.enter, Press.drive, Press.ejectorLevel, held.forced]

/-! ## The update a release makes -/

section Released

variable (s : State)

/-- The record of the context that a press holds (R125). -/
def State.heldRecord (p : PressId) : Option PartRecord := (s.press p).context.map CycleContext.record

/-- The presses `ps` at the head of the commit wait list are released: they leave the list, their records join the tail
of the history queue, and those that pass admission join the tail of the scale queue in the same order (R22, R130). -/
def State.released (ps : List PressId) : State :=
  { s with
    presses := Vector.ofFn fun p => if p ∈ ps then (s.press p).release (s.admits p) else s.press p
    scale := { s.scale with queue := s.scale.queue ++ ps.filter s.admits }
    history := { s.history with
      waitList := s.history.waitList.drop ps.length
      records := s.history.records ++ ps.filterMap s.heldRecord } }

theorem State.released_scale (ps : List PressId) :
    (s.released ps).scale = { s.scale with queue := s.scale.queue ++ ps.filter s.admits } := rfl

theorem State.released_history (ps : List PressId) : (s.released ps).history = { s.history with
    waitList := s.history.waitList.drop ps.length
    records := s.history.records ++ ps.filterMap s.heldRecord } := rfl

theorem State.released_press (ps : List PressId) (q : PressId) :
    (s.released ps).press q = if q ∈ ps then (s.press q).release (s.admits q) else s.press q := by
  simp [State.released, State.press]

/-- The presses that are not released are as they were. -/
theorem State.released_press_of_notMem {ps : List PressId} {q : PressId} (h : q ∉ ps) :
    (s.released ps).press q = s.press q := by
  rw [State.released_press, if_neg h]

/-- The presses are known from each one's reading. -/
theorem State.presses_eq : s.presses = Vector.ofFn s.press := by
  ext i hi
  simp [State.press]

@[simp] theorem State.released_nil : s.released [] = s := by
  simp [State.released, ← s.presses_eq]

/-- A release changes neither the setup nor the readiness of a press, nor the heat state: admission stays as it was. -/
@[simp] theorem State.released_admits (ps : List PressId) : (s.released ps).admits = s.admits := by
  funext q
  refine State.admits_congr rfl ?_ ?_ <;> rw [State.released_press] <;> split <;> rfl

/-- Releases one after the other are one release of them all. -/
theorem State.released_cons {p : PressId} {ps : List PressId} (fresh : p ∉ ps) :
    (s.released [p]).released ps = s.released (p :: ps) := by
  have other {q : PressId} (h : q ∈ ps) : (s.released [p]).press q = s.press q :=
    s.released_press_of_notMem (by simpa using ne_of_mem_of_not_mem h fresh)
  have presses : ((s.released [p]).released ps).presses = (s.released (p :: ps)).presses := by
    refine congrArg Vector.ofFn (funext fun q => ?_)
    by_cases h : q ∈ ps
    · simp [h, other]
    · simp [h, State.released_press]
  have records : ps.filterMap (s.released [p]).heldRecord = ps.filterMap s.heldRecord :=
    List.filterMap_congr fun q h => by rw [State.heldRecord, other h]; rfl
  have scale : ((s.released [p]).released ps).scale = (s.released (p :: ps)).scale := by
    rw [State.released_scale, State.released_admits, State.released_scale, State.released_scale]
    simp [List.append_assoc, ← List.filter_append]
  have history : ((s.released [p]).released ps).history = (s.released (p :: ps)).history := by
    rw [State.released_history, records, State.released_history, State.released_history]
    simp [List.append_assoc, ← List.filterMap_append]
  calc (s.released [p]).released ps
      = { s with
          presses := ((s.released [p]).released ps).presses
          scale := ((s.released [p]).released ps).scale
          history := ((s.released [p]).released ps).history } := rfl
    _ = s.released (p :: ps) := by rw [presses, scale, history]; rfl

/-- Two changes of one press are one change of it. -/
theorem State.modPress_modPress (p : PressId) (f g : Press → Press) :
    (s.modPress p f).modPress p g = s.modPress p fun x => g (f x).drive := by
  simp [State.modPress]

/-- A change of one press, by the press it leaves with its outputs following (R3). -/
theorem State.modPress_of_driven {p : PressId} {f : Press → Press} {x : Press} (h : (f (s.press p)).drive = x) :
    s.modPress p f = { s with presses := Vector.ofFn fun q => if q = p then x else s.press q } := by
  subst h
  have presses : (s.modPress p f).presses = Vector.ofFn fun q => if q = p then (f (s.press p)).drive else s.press q :=
    (State.presses_eq _).trans (congrArg Vector.ofFn (funext (s.modPress_press p · f)))
  rw [← presses]
  rfl

/-- A held press that has given up its context enters HEATING, with the admission it had before (R21, R78). -/
theorem State.enterHeating_of_isHeld {p : PressId} (held : (s.press p).IsHeld) :
    (s.modPress p Press.withoutContext).enterHeating p =
      { s with presses := (s.released [p]).presses, scale := (s.released [p]).scale } := by
  have presses : (s.released [p]).presses =
      Vector.ofFn fun q => if q = p then (s.press p).release (s.admits p) else s.press q := by
    refine congrArg Vector.ofFn (funext fun q => ?_)
    by_cases h : q = p <;> simp [h]
  have admits : (s.modPress p Press.withoutContext).admits p = s.admits p :=
    State.admits_congr rfl (by simp [Press.withoutContext]) (by simp [Press.withoutContext])
  rw [presses, State.released_scale, ← admits]
  rcases State.enterHeating_spec (s.modPress p Press.withoutContext) p with ⟨h, e⟩ | ⟨h, e⟩
  case inl =>
    rw [e, State.modPress_modPress, State.modPress_modPress,
      State.modPress_of_driven (x := (s.press p).release true) s (by rw [held.enter_heating, held.enter_chargeWait])]
    simp [← admits, h]
  case inr =>
    rw [e, State.modPress_modPress, State.modPress_of_driven s held.enter_heating]
    simp [← admits, h]

/-- The head of the commit wait list is released (R22). -/
theorem State.releaseHead_eq {p : PressId} {rest : List PressId} (list : s.history.waitList = p :: rest)
    (held : (s.press p).IsHeld) : s.releaseHead p rest = s.released [p] := by
  obtain ⟨c, context⟩ := Option.isSome_iff_exists.1 held.context
  have history : (s.released [p]).history =
      { s.history with waitList := rest, records := s.history.records ++ [c.record] } := by
    simp [State.released_history, State.heldRecord, list, context]
  have committed : s.releaseHead p rest =
      (State.modPress { s with history := (s.released [p]).history } p Press.withoutContext).enterHeating p := by
    have press : State.press { s with history := { s.history with waitList := rest } } p = s.press p := rfl
    rw [history, State.releaseHead]
    dsimp only
    rw [press, context]
    rfl
  exact committed.trans (State.enterHeating_of_isHeld { s with history := (s.released [p]).history } held)

/-- Held presses are released in the order of the wait list, as many as the history queue has room for (R130). -/
theorem State.releaseHeld_eq {list : List PressId} (hl : s.history.waitList = list) (nodup : list.Nodup)
    (held : ∀ p ∈ list, (s.press p).IsHeld) :
    s.releaseHeld list = s.released (list.take (64 - s.history.records.length)) := by
  induction list generalizing s with
  | nil => simp [State.releaseHeld]
  | cons p rest ih =>
    obtain ⟨fresh, nodup⟩ := List.nodup_cons.1 nodup
    have headHeld : (s.press p).IsHeld := held p List.mem_cons_self
    unfold State.releaseHeld
    split
    next room =>
      have headReleased := s.releaseHead_eq hl headHeld
      have others : ∀ q ∈ rest, ((s.released [p]).press q).IsHeld := fun q hq => by
        rw [s.released_press_of_notMem (by simpa using ne_of_mem_of_not_mem hq fresh)]
        exact held q (List.mem_cons_of_mem p hq)
      have oneMore : (s.released [p]).history.records.length = s.history.records.length + 1 := by
        obtain ⟨c, context⟩ := Option.isSome_iff_exists.1 headHeld.context
        simp [State.released_history, State.heldRecord, context]
      have roomLeft : 64 - s.history.records.length = 64 - (s.history.records.length + 1) + 1 :=
        (Nat.sub_add_cancel (Nat.sub_pos_of_lt room)).symm
      rw [headReleased, ih _ (by simp [State.released_history, hl]) nodup others, oneMore, roomLeft,
        List.take_succ_cons, State.released_cons _ fun h => fresh (List.mem_of_mem_take h)]
    next full =>
      have noRoom : 64 - s.history.records.length = 0 := Nat.sub_eq_zero_of_le (not_lt.1 full)
      rw [noRoom, List.take_zero, State.released_nil]

end Released

/-! ## HISTORY_ACK -/

section Ack

variable {s : State} {serial : BitVec 32} {j k : Nat}

/-- The state after HISTORY_ACK has removed the records up to position j and released `ps`. -/
def State.acknowledged (s : State) (j : Nat) (ps : List PressId) : State :=
  ({ s with history := { s.history with records := s.history.records.drop (j + 1) } } : State).released ps

/-- As many presses are released as there is room after the removal: j + 1, if so many wait, since the history queue was
full if any did (R129, R130, R138). -/
theorem State.acknowledge_eq (pins : PinLaw s) (cycle : CycleLaw s) (position : j < s.history.records.length)
    (hk : k = min (j + 1) s.history.waitList.length) :
    s.acknowledge j = s.acknowledged j (s.history.waitList.take k) := by
  have held : ∀ p ∈ s.history.waitList, (s.press p).IsHeld := fun p => isHeld_of_mem_waitList pins cycle
  obtain ⟨-, -, -, -, -, nodup, -, full, -⟩ := cycle
  have room : s.history.waitList.take (64 - (s.history.records.drop (j + 1)).length) = s.history.waitList.take k := by
    rcases eq_or_ne s.history.waitList [] with empty | waits
    · simp [empty]
    · rw [List.length_drop, full waits, Nat.sub_sub_self (full waits ▸ position), List.take_eq_take_min, hk]
  rw [← room]
  exact State.releaseHeld_eq _ rfl nodup held

theorem State.acknowledged_onlyChanges (ps : List PressId) :
    OnlyChanges [.presses, .scale, .history, .attention, .link] s (s.acknowledged j ps) := by
  refine ⟨rfl, fun b hb => ?_⟩
  cases b <;> simp_all [State.keeps, State.acknowledged, State.released]

theorem State.acknowledged_history (hk : k ≤ s.history.waitList.length) :
    (s.acknowledged j (s.history.waitList.take k)).history = { s.history with
      waitList := s.history.waitList.drop k
      records := s.history.records.drop (j + 1) ++ (s.history.waitList.take k).filterMap s.heldRecord } := by
  rw [State.acknowledged, State.released_history, List.length_take_of_le hk]
  rfl

theorem State.acknowledged_press (ps : List PressId) (p : PressId) :
    (s.acknowledged j ps).press p = if p ∈ ps then (s.press p).release (s.admits p) else s.press p :=
  State.released_press ..

/-- A serial that no record carries is answered NOT_FOUND (R138). -/
theorem serveHistoryAck_of_absent (absent : ∀ a ∈ s.history.records, a.serial ≠ serial.toNat) :
    serveHistoryAck serial s = (s, notFoundReply) := by
  have missing : (s.history.records.findIdx? fun a => a.serial == serial.toNat) = none :=
    List.findIdx?_eq_none_iff.2 fun a ha => by simpa using absent a ha
  simp only [serveHistoryAck, missing]

/-- A serial whose first record stands at position j is acknowledged there (R138). -/
theorem serveHistoryAck_of_first {record : PartRecord} (found : s.history.records[j]? = some record)
    (carries : record.serial = serial.toNat)
    (first : ∀ i a, i < j → s.history.records[i]? = some a → a.serial ≠ serial.toNat) :
    serveHistoryAck serial s = ((s.acknowledge j).settle, okReply (num8 (j + 1) ++
      num8 (s.history.waitList.length - (s.acknowledge j).history.waitList.length) ++
      num8 (s.acknowledge j).history.records.length ++
      optionalItem 4 num32 ((s.acknowledge j).history.records.head?.map PartRecord.serial))) := by
  have position : (s.history.records.findIdx? fun a => a.serial == serial.toNat) = some j := by
    obtain ⟨inside, rfl⟩ := List.getElem?_eq_some_iff.1 found
    refine List.findIdx?_eq_some_iff_getElem.2 ⟨inside, by simpa using carries, fun i hi => ?_⟩
    simpa using first i _ hi (List.getElem?_eq_getElem (hi.trans inside))
  simp only [serveHistoryAck, position]
  rfl

end Ack

/-! ## The obligation -/

/-- A reply put in hand leaves what the event handed on (R141). -/
theorem HandsOn.putInHand {s t : State} (h : HandsOn s t) (e : Entry) (r : Reply) : HandsOn s (t.putInHand e r) := h

/-- An answer with a payload is an answer with every payload equal to it. -/
theorem Answers.congr {s t : State} {c : Instr} {r r' : Reply} (h : Answers c r s t) (e : r = r') : Answers c r' s t :=
  e ▸ h

theorem exec_historyAck (serial : BitVec 32) (s : State) :
    exec (.historyAck serial) s = .next (s.request (.historyAck serial) (serveHistoryAck serial)) := rfl

/-- Settles O48: the state left is the acknowledged one, which releases the first k of the wait list in one update; each
clause reads a field of it. -/
theorem historyAckReleasesHeldPresses : Obligations.HistoryAckReleasesHeldPresses := by
  unfold Obligations.HistoryAckReleasesHeldPresses
  intro s serial free
  refine ⟨fun j k record admits pins cycle admitted found carries first hk =>
    ⟨_, exec_historyAck serial s, ?first⟩, fun absent => ⟨_, exec_historyAck serial s, ?absent⟩⟩
  case first =>
    obtain rfl : admits = s.admits := funext fun p => Bool.eq_iff_iff.2 ((admitted p).trans (s.admits_iff p).symm)
    have inside : j < s.history.records.length := (List.getElem?_eq_some_iff.1 found).1
    have waiting : k ≤ s.history.waitList.length := hk ▸ Nat.min_le_right ..
    have changes := State.acknowledged_onlyChanges (s := s) (j := j) (s.history.waitList.take k)
    have attention : (s.acknowledged j (s.history.waitList.take k)).attention = s.attention := rfl
    have link : (s.acknowledged j (s.history.waitList.take k)).link = s.link := rfl
    have scale : (s.acknowledged j (s.history.waitList.take k)).scale =
        { s.scale with queue := s.scale.queue ++ (s.history.waitList.take k).filter s.admits } := rfl
    have history := State.acknowledged_history (j := j) waiting
    have press := State.acknowledged_press (s := s) (j := j) (s.history.waitList.take k)
    rw [State.request_of_free _ free, serveHistoryAck_of_first found carries first,
      State.acknowledge_eq pins cycle inside hk]
    generalize s.acknowledged j (s.history.waitList.take k) = t at *
    have released : s.history.waitList.length - t.history.waitList.length = k := by
      simp [history, Nat.sub_sub_self waiting]
    simp only [released, State.putInHand_history, State.settle_history, State.putInHand_scale, State.settle_scale,
      State.putInHand_press, State.settle_press]
    refine ⟨(changes.settle (by simp)).putInHand _ _ (by simp), (State.settle_handsOn attention).putInHand _ _,
      history, scale, ?presses, ?answer⟩
    case presses =>
      rintro p _ rfl
      exact ⟨fun out => (press p).trans (if_neg out), fun within => (press p).trans (if_pos within)⟩
    case answer =>
      refine (State.putInHand_answers (t := t.settle) (.historyAck serial) _ link).congr ?_
      cases t.history.records <;> rfl
  case absent =>
    rw [State.request_of_free _ free, serveHistoryAck_of_absent absent]
    exact s.putInHand_onlyAnswers (.historyAck serial) notFoundReply

end Sys2Proof.Machine

/-! SUPPORT. What END_SERVICE, SET_LOWEST and ATTN_SETUP make of the attention controller, how the ring finds the level of
highest priority, and how a set of levels stands on the wire (R147, R149, R150, R157 to R162, R183). -/

namespace Sys2Proof.Machine

/-! ## The fields of the requests -/

section Fields

variable {b : Byte} {w : BitVec 16}

theorem levelOf_of_ge (h : 12 ≤ b.toNat) : levelOf b = none := dif_neg (Nat.not_lt.2 h)

theorem levelOf_of_lt (h : b.toNat < 12) : levelOf b = some ⟨b.toNat, h⟩ := dif_pos h

theorem bitOf_zero : bitOf 0 = some false := rfl

theorem bitOf_one : bitOf 1 = some true := rfl

theorem bitOf_ite (value : Bool) : bitOf (if value then 1 else 0) = some value := by
  cases value <;> rfl

/-- The bytes of a two-valued field. -/
theorem eq_zero_or_one_of_toNat_le (h : b.toNat ≤ 1) : b = 0 ∨ b = 1 := by bv_omega

theorem bitOf_of_le (h : b.toNat ≤ 1) : bitOf b = some (decide (b = 1)) := by
  rcases eq_zero_or_one_of_toNat_le h with rfl | rfl <;> rfl

theorem bitOf_of_gt (h : 1 < b.toNat) : bitOf b = none := by
  have notZero : b ≠ 0 := by bv_omega
  have notOne : b ≠ 1 := by bv_omega
  rw [bitOf, if_neg notZero, if_neg notOne]

/-- A two-valued item is sent back as its field carried it. -/
theorem flagByte_decide (h : b.toNat ≤ 1) : flagByte (decide (b = 1)) = [b] := by
  rcases eq_zero_or_one_of_toNat_le h with rfl | rfl <;> rfl

theorem levelSetOf_eq (w : BitVec 16) :
    levelSetOf w = if w.toNat < 4096 then some (w.extractLsb' 0 12) else none := by
  have noneAbove : w.extractLsb' 12 4 = 0 ↔ w.toNat < 4096 := by
    rw [← BitVec.toNat_inj, BitVec.extractLsb'_toNat, Nat.shiftRight_eq_div_pow]
    have bound := w.isLt
    simp only [BitVec.ofNat_eq_ofNat, BitVec.toNat_ofNat]
    omega
  simp only [levelSetOf, noneAbove]

theorem levelSetOf_of_lt (h : w.toNat < 4096) : levelSetOf w = some (w.extractLsb' 0 12) :=
  (levelSetOf_eq w).trans (if_pos h)

theorem levelSetOf_of_ge (h : 4096 ≤ w.toNat) : levelSetOf w = none :=
  (levelSetOf_eq w).trans (if_neg (Nat.not_lt.2 h))

end Fields

/-! ## A set of levels on the wire -/

/-- Bit i of a set is entry i of its list, and clear past the end of it (R183). -/
theorem setNumber_testBit (flags : List Bool) (i : Nat) : (setNumber flags).testBit i = flags[i]?.getD false := by
  induction flags generalizing i with
  | nil => simp [setNumber]
  | cons b rest ih =>
    cases i with
    | zero => cases b <;> simp [setNumber, Nat.testBit_zero, Nat.add_mod]
    | succ i =>
      have half : (setNumber (b :: rest)) / 2 = setNumber rest := by
        rw [setNumber]
        split <;> omega
      rw [Nat.testBit_succ, half, ih, List.getElem?_cons_succ]

section LevelSets

variable (a : Attention) (f : Level → Bool)

/-- The levels of which a flag holds, as the two bytes on the wire carry them (R183, R188). -/
def Attention.levelWord : BitVec 16 := BitVec.ofNat 16 (a.levelSet f)

theorem levelSetBytes_eq : levelSetBytes a f = le16 (a.levelWord f) := rfl

/-- Bit l of a set of levels is the flag of level l (R183). -/
theorem Attention.levelWord_getLsbD (l : LevelId) : (a.levelWord f).getLsbD l = f a.levels[l] := by
  have inside : l.val < 16 := by omega
  rw [Attention.levelWord, BitVec.getLsbD_ofNat, Attention.levelSet, setNumber_testBit]
  simp [inside]

/-- A set of levels has no member above 11 (R183). -/
theorem Attention.levelWord_getLsbD_of_ge {i : Nat} (h : 12 ≤ i) : (a.levelWord f).getLsbD i = false := by
  rw [Attention.levelWord, BitVec.getLsbD_ofNat, Attention.levelSet, setNumber_testBit]
  simp [h]

/-- A set below 4096 is the set of the levels of which a flag holds, when its members are those levels. -/
theorem Attention.levelWord_eq {w : BitVec 16} (small : w.toNat < 4096)
    (members : ∀ l : LevelId, f a.levels[l] = w.getLsbD l) : a.levelWord f = w := by
  refine BitVec.eq_of_getLsbD_eq fun i _ => ?_
  rcases Nat.lt_or_ge i 12 with inside | outside
  case inl => exact (a.levelWord_getLsbD f ⟨i, inside⟩).trans (members ⟨i, inside⟩)
  case inr =>
    have clear : w.getLsbD i = false :=
      Nat.testBit_lt_two_pow (small.trans_le (Nat.pow_le_pow_right (n := 2) (by decide) outside))
    rw [a.levelWord_getLsbD_of_ge f outside, clear]

end LevelSets

/-! ## The level of highest priority -/

/-- The ring lists the higher priority before the lower (R149). -/
theorem ringOrder_sorted (lowest : LevelId) : (ringOrder lowest).Pairwise fun k m => rank lowest k < rank lowest m :=
  List.pairwise_map.1 (ringOrder_rank lowest ▸ List.pairwise_lt_range)

/-- The ring finds the level of least rank among those a test selects (R149). -/
theorem ringOrder_find?_of_least {lowest l : LevelId} {select : LevelId → Bool} (selected : select l = true)
    (least : ∀ m, select m = true → rank lowest l ≤ rank lowest m) : (ringOrder lowest).find? select = some l := by
  obtain ⟨higher, lower, split⟩ := List.append_of_mem (ringOrder_mem lowest l)
  have sorted := ringOrder_sorted lowest
  rw [split] at sorted
  obtain ⟨-, -, before⟩ := List.pairwise_append.1 sorted
  refine List.find?_eq_some_iff_append.2 ⟨selected, higher, lower, split, fun m hm => ?_⟩
  have above : rank lowest m < rank lowest l := before m hm l List.mem_cons_self
  simpa using fun h => Nat.not_lt.2 (least m h) above

/-! ## A change of one level -/

section OnLevel

variable (a : Attention) (l : LevelId) (f : Level → Level)

/-- The level that is changed takes the change. -/
theorem Attention.onLevel_level_self : (a.onLevel l f).levels[l] = f a.levels[l] := by
  simp [Attention.onLevel]

/-- The other levels are as they were. -/
theorem Attention.onLevel_level_ne {l m : LevelId} (h : m ≠ l) : (a.onLevel l f).levels[m] = a.levels[m] := by
  have : l.val ≠ m.val := fun e => h (Fin.ext e.symm)
  simp [Attention.onLevel, this]

/-- A level that the change leaves as it was leaves the controller as it was. -/
theorem Attention.onLevel_of_fixed {f : Level → Level} (h : f a.levels[l] = a.levels[l]) : a.onLevel l f = a := by
  rw [Attention.onLevel, h]
  simp

end OnLevel

/-! ## A request that acts on the attention controller alone -/

section Requests

variable {s : State} {c : Instr} {act : State → State × Reply} {r : Reply}

/-- A request whose owner changes nothing is only answered (R171). -/
theorem State.request_onlyAnswers (free : s.link.hand = none) (h : act s = (s, r)) :
    OnlyAnswers c r s (s.request c act) := by
  rw [State.request_of_free act free, h]
  exact s.putInHand_onlyAnswers c r

/-- A request whose owner changes the attention controller: it holds what the owner made of it, and the rest but the link
is as it was. -/
theorem State.request_setAttention {a : Attention} (free : s.link.hand = none)
    (h : act s = ({ s with attention := a }, r)) :
    OnlyChanges [.attention, .link] s (s.request c act) ∧ (s.request c act).attention = a ∧
      Answers c r s (s.request c act) := by
  have changes : OnlyChanges [.attention, .link] s { s with attention := a } :=
    ⟨rfl, fun b hb => by cases b <;> simp_all [State.keeps]⟩
  rw [State.request_of_free act free, h]
  exact ⟨changes.putInHand _ r (by simp), rfl, State.putInHand_answers c r rfl⟩

end Requests

/-! ## END_SERVICE -/

section EndService

variable (a : Attention) (l : LevelId) (rotate : Bool) (s : State)

/-- The controller after END_SERVICE has ended a level, and turned the ring to it under ROTATE (R157, R158, R159). -/
def Attention.afterEnd : Attention :=
  (if rotate then { a.endLevel l with lowest := l } else a.endLevel l).judge

@[simp] theorem Attention.afterEnd_levels : (a.afterEnd l rotate).levels = (a.endLevel l).levels := by
  cases rotate <;> rfl

@[simp] theorem Attention.afterEnd_lowest : (a.afterEnd l rotate).lowest = if rotate then l else a.lowest := by
  cases rotate <;> rfl

@[simp] theorem Attention.afterEnd_openNesting : (a.afterEnd l rotate).openNesting = a.openNesting := by
  cases rotate <;> rfl

@[simp] theorem Attention.afterEnd_autoEnd : (a.afterEnd l rotate).autoEnd = a.autoEnd := by
  cases rotate <;> rfl

@[simp] theorem Attention.afterEnd_rotateOnAuto : (a.afterEnd l rotate).rotateOnAuto = a.rotateOnAuto := by
  cases rotate <;> rfl

/-- A level that is not in service has nothing to end. -/
theorem Attention.endLevel_of_not_inService (h : a.levels[l].inService = false) : a.endLevel l = a :=
  a.onLevel_of_fixed l (by rw [← h])

variable {a l s}

/-- The unmasked level in service of least rank is the one that NON_SPECIFIC chooses (R157). -/
theorem Attention.highestInService_of_least (serving : a.levels[l].inService = true) (unmasked : a.levels[l].masked = false)
    (least : ∀ m : LevelId, a.levels[m].inService = true → a.levels[m].masked = false →
      rank a.lowest l ≤ rank a.lowest m) : a.highestInService = some l := by
  refine ringOrder_find?_of_least (by rw [serving, unmasked]; rfl) fun m hm => ?_
  obtain ⟨servingM, unmaskedM⟩ := Bool.and_eq_true_iff.1 hm
  exact least m servingM (by simpa using unmaskedM)

/-- With every level in service masked, NON_SPECIFIC chooses none (R157). -/
theorem Attention.highestInService_of_masked
    (masked : ∀ m : LevelId, a.levels[m].inService = true → a.levels[m].masked = true) : a.highestInService = none :=
  List.find?_eq_none.2 fun m _ => by simpa using masked m

theorem endNonSpecific_of_some (h : s.attention.highestInService = some l) : endNonSpecific rotate s =
    ({ s with attention := s.attention.afterEnd l rotate }, endReply (some l) (s.attention.afterEnd l rotate)) := by
  simp only [endNonSpecific, h]
  rfl

theorem endNonSpecific_of_none (h : s.attention.highestInService = none) :
    endNonSpecific rotate s = (s, endReply none s.attention) := by
  simp only [endNonSpecific, h]

/-- SPECIFIC ends the named level in either case: a level not in service is as it was (R158, R159). -/
theorem endSpecific_eq : endSpecific l rotate s =
    ({ s with attention := s.attention.afterEnd l rotate },
      endReply (if s.attention.levels[l].inService then some l else none) (s.attention.afterEnd l rotate)) := by
  cases serving : s.attention.levels[l].inService with
  | true =>
    simp only [endSpecific, serving, if_true]
    rfl
  | false =>
    simp only [endSpecific, serving, Bool.false_eq_true, if_false, Attention.afterEnd,
      Attention.endLevel_of_not_inService _ l serving]

variable {form level rotateCode : Byte} {rotate}

theorem serveEndService_nonSpecific (code : bitOf rotateCode = some rotate) :
    serveEndService 0 level rotateCode s = endNonSpecific rotate s := by
  simp only [serveEndService, bitOf_zero, code]

theorem serveEndService_specific (code : bitOf rotateCode = some rotate) :
    serveEndService 1 (numberByte l) rotateCode s = endSpecific l rotate s := by
  simp only [serveEndService, bitOf_one, levelOf_numberByte, code]

theorem serveEndService_form_range (h : 1 < form.toNat) : serveEndService form level rotateCode s = (s, rangeReply 1) := by
  simp only [serveEndService, bitOf_of_gt h]

theorem serveEndService_level_range (h : 12 ≤ level.toNat) :
    serveEndService 1 level rotateCode s = (s, rangeReply 2) := by
  simp only [serveEndService, bitOf_one, levelOf_of_ge h]

/-- The rotate field is out of range, behind a form and a level that are not (R157, R158). -/
theorem serveEndService_rotate_range (h : 1 < rotateCode.toNat) (before : form = 0 ∨ form = 1 ∧ level.toNat < 12) :
    serveEndService form level rotateCode s = (s, rangeReply 3) := by
  rcases before with rfl | ⟨rfl, named⟩
  · simp only [serveEndService, bitOf_zero, bitOf_of_gt h]
  · simp only [serveEndService, bitOf_one, levelOf_of_lt named, bitOf_of_gt h]

end EndService

theorem exec_endService (form level rotateCode : Byte) (s : State) : exec (.endService form level rotateCode) s =
    .next (s.request (.endService form level rotateCode) (serveEndService form level rotateCode)) := rfl

/-- Settles O51: both forms leave the controller as `Attention.afterEnd` gives it, NON_SPECIFIC with the level of least rank
that the ring finds, SPECIFIC with the named level. -/
theorem endServiceEndsOneLevel : Obligations.EndServiceEndsOneLevel := by
  unfold Obligations.EndServiceEndsOneLevel
  intro s free
  refine ⟨?ends, ?nothing, ?refused⟩
  case ends =>
    rintro form level rotateCode l rotate ends _ rfl code chosen
    have served : serveEndService form level rotateCode s =
        ({ s with attention := s.attention.afterEnd l rotate },
          endReply (if ends then some l else none) (s.attention.afterEnd l rotate)) := by
      have bit : bitOf rotateCode = some rotate := code ▸ bitOf_ite rotate
      rcases chosen with ⟨rfl, rfl, serving, unmasked, least⟩ | ⟨rfl, rfl, rfl⟩
      · rw [serveEndService_nonSpecific bit,
          endNonSpecific_of_some rotate (Attention.highestInService_of_least serving unmasked least)]
        rfl
      · rw [serveEndService_specific bit, endSpecific_eq]
    obtain ⟨changes, attention, answer⟩ := State.request_setAttention free served
    refine ⟨_, exec_endService form level rotateCode s, changes, ?_⟩
    rw [attention]
    refine ⟨?ended, fun m other => ?others, Attention.afterEnd_lowest .., Attention.afterEnd_openNesting ..,
      Attention.afterEnd_autoEnd .., Attention.afterEnd_rotateOnAuto .., Attention.judge_attn _, answer.congr ?reply⟩
    case ended =>
      rw [Attention.afterEnd_levels]
      exact Attention.onLevel_level_self ..
    case others =>
      rw [Attention.afterEnd_levels]
      exact Attention.onLevel_level_ne _ _ other
    case reply => cases ends <;> rfl
  case nothing =>
    intro level rotateCode inRange masked
    exact ⟨_, exec_endService 0 level rotateCode s, State.request_onlyAnswers free
      ((serveEndService_nonSpecific (bitOf_of_le inRange)).trans
        (endNonSpecific_of_none _ (Attention.highestInService_of_masked masked)))⟩
  case refused =>
    rintro form level rotateCode _ rfl
    refine ⟨_, exec_endService form level rotateCode s, fun h => ?form, fun specific h => ?level,
      fun specific named h => ?specificRotate, fun nonSpecific h => ?nonSpecificRotate⟩
    case form => exact State.request_onlyAnswers free (serveEndService_form_range h)
    case level => exact State.request_onlyAnswers free (specific ▸ serveEndService_level_range h)
    case specificRotate => exact State.request_onlyAnswers free (serveEndService_rotate_range h (.inr ⟨specific, named⟩))
    case nonSpecificRotate => exact State.request_onlyAnswers free (serveEndService_rotate_range h (.inl nonSpecific))

/-! ## SET_LOWEST -/

theorem serveSetLowest_numberByte (l : LevelId) (s : State) : serveSetLowest (numberByte l) s =
    ({ s with attention := { s.attention with lowest := l }.judge }, okReply (num8 l.val)) := by
  simp [serveSetLowest]

theorem serveSetLowest_range {b : Byte} (s : State) (h : 12 ≤ b.toNat) : serveSetLowest b s = (s, rangeReply 1) := by
  simp only [serveSetLowest, levelOf_of_ge h]

theorem exec_setLowest (b : Byte) (s : State) :
    exec (.setLowest b) s = .next (s.request (.setLowest b) (serveSetLowest b)) := rfl

/-- Settles O52: the named level becomes the lowest, and the judgement moves ATTN alone. -/
theorem setLowestTurnsTheRing : Obligations.SetLowestTurnsTheRing := by
  unfold Obligations.SetLowestTurnsTheRing
  intro s free
  refine ⟨fun l => ?taken, fun b above => ?refused⟩
  case taken =>
    obtain ⟨changes, attention, answer⟩ := State.request_setAttention free (serveSetLowest_numberByte l s)
    refine ⟨_, exec_setLowest (numberByte l) s, changes, ?_⟩
    rw [attention]
    exact ⟨rfl, Attention.judge_attn _, answer⟩
  case refused =>
    exact ⟨_, exec_setLowest b s, State.request_onlyAnswers free (serveSetLowest_range s above)⟩

/-! ## ATTN_SETUP -/

section AttnSetup

variable (k : Level)

/-- A level that stands in the mode it is given keeps its request and armed flag (R147). -/
theorem Level.setEdge_same : k.setEdge k.edge = k := by simp [Level.setEdge]

/-- A level turned to EDGE latches a condition that holds, and is armed otherwise (R147). -/
theorem Level.setEdge_true (h : k.edge = false) :
    k.setEdge true = { k with edge := true, request := k.condition, armed := !k.condition } := by
  simp [Level.setEdge, h]

/-- A level turned to LEVEL requests what its condition gives, and is armed (R147). -/
theorem Level.setEdge_false (h : k.edge = true) :
    k.setEdge false = { k with edge := false, request := k.condition, armed := true } := by
  simp [Level.setEdge, h]

/-- A level stands in the mode it is given. -/
@[simp] theorem Level.setEdge_edge (edge : Bool) : (k.setEdge edge).edge = edge := by
  cases h : k.edge <;> cases edge <;> simp [Level.setEdge, h]

end AttnSetup

section AttnSetupTaken

variable (a : Attention) (mask edge : BitVec 16) (nesting autoEnd rotate : Byte)

/-- The controller that an ATTN_SETUP of these fields leaves (R162). -/
def Attention.afterSetup : Attention :=
  a.setUp (mask.extractLsb' 0 12) (edge.extractLsb' 0 12) (decide (nesting = 1)) (decide (autoEnd = 1)) (decide (rotate = 1))

/-- A level takes its trigger mode from the EDGE set, then its mask from the mask set (R162). -/
theorem Attention.afterSetup_level (l : LevelId) : (a.afterSetup mask edge nesting autoEnd rotate).levels[l] =
    { a.levels[l].setEdge (edge.getLsbD l) with masked := mask.getLsbD l } := by
  simp [Attention.afterSetup, Attention.setUp, Attention.judge]

variable {mask edge nesting autoEnd rotate} {s : State}

/-- An ATTN_SETUP with every field in range is taken, and its reply sends the five fields back as they came (R162). -/
theorem serveAttnSetup_of_inRange (maskOk : mask.toNat < 4096) (edgeOk : edge.toNat < 4096) (nestingOk : nesting.toNat ≤ 1)
    (autoEndOk : autoEnd.toNat ≤ 1) (rotateOk : rotate.toNat ≤ 1) {a : Attention}
    (after : a = s.attention.afterSetup mask edge nesting autoEnd rotate) :
    serveAttnSetup mask edge nesting autoEnd rotate s =
      ({ s with attention := a },
        okReply (le16 mask ++ le16 edge ++ [nesting] ++ [autoEnd] ++ [rotate] ++ le16 (a.levelWord (·.request)) ++
          le16 (a.levelWord (·.inService)))) := by
  have masks : a.levelWord (·.masked) = mask :=
    Attention.levelWord_eq _ _ maskOk fun l => by rw [after, Attention.afterSetup_level]
  have edges : a.levelWord (·.edge) = edge :=
    Attention.levelWord_eq _ _ edgeOk fun l => by rw [after, Attention.afterSetup_level, Level.setEdge_edge]
  calc serveAttnSetup mask edge nesting autoEnd rotate s
      = ({ s with attention := a }, okReply (le16 (a.levelWord (·.masked)) ++ le16 (a.levelWord (·.edge)) ++
          flagByte (decide (nesting = 1)) ++ flagByte (decide (autoEnd = 1)) ++ flagByte (decide (rotate = 1)) ++
          le16 (a.levelWord (·.request)) ++ le16 (a.levelWord (·.inService)))) := by
        simp only [serveAttnSetup, levelSetOf_of_lt maskOk, levelSetOf_of_lt edgeOk, bitOf_of_le nestingOk,
          bitOf_of_le autoEndOk, bitOf_of_le rotateOk, ← levelSetBytes_eq, after]
        rfl
    _ = _ := by
        rw [masks, edges, flagByte_decide nestingOk, flagByte_decide autoEndOk, flagByte_decide rotateOk]

end AttnSetupTaken

section AttnSetupRefused

variable {mask edge : BitVec 16} {nesting autoEnd rotate : Byte} {s : State}

/-- An ATTN_SETUP is refused at its first field out of range (R161). -/
theorem serveAttnSetup_mask_range (h : 4096 ≤ mask.toNat) :
    serveAttnSetup mask edge nesting autoEnd rotate s = (s, rangeReply 1) := by
  simp only [serveAttnSetup, levelSetOf_of_ge h]

theorem serveAttnSetup_edge_range (maskOk : mask.toNat < 4096) (h : 4096 ≤ edge.toNat) :
    serveAttnSetup mask edge nesting autoEnd rotate s = (s, rangeReply 2) := by
  simp only [serveAttnSetup, levelSetOf_of_lt maskOk, levelSetOf_of_ge h]

theorem serveAttnSetup_nesting_range (maskOk : mask.toNat < 4096) (edgeOk : edge.toNat < 4096) (h : 1 < nesting.toNat) :
    serveAttnSetup mask edge nesting autoEnd rotate s = (s, rangeReply 3) := by
  simp only [serveAttnSetup, levelSetOf_of_lt maskOk, levelSetOf_of_lt edgeOk, bitOf_of_gt h]

theorem serveAttnSetup_autoEnd_range (maskOk : mask.toNat < 4096) (edgeOk : edge.toNat < 4096)
    (nestingOk : nesting.toNat ≤ 1) (h : 1 < autoEnd.toNat) :
    serveAttnSetup mask edge nesting autoEnd rotate s = (s, rangeReply 4) := by
  simp only [serveAttnSetup, levelSetOf_of_lt maskOk, levelSetOf_of_lt edgeOk, bitOf_of_le nestingOk, bitOf_of_gt h]

theorem serveAttnSetup_rotate_range (maskOk : mask.toNat < 4096) (edgeOk : edge.toNat < 4096)
    (nestingOk : nesting.toNat ≤ 1) (autoEndOk : autoEnd.toNat ≤ 1) (h : 1 < rotate.toNat) :
    serveAttnSetup mask edge nesting autoEnd rotate s = (s, rangeReply 5) := by
  simp only [serveAttnSetup, levelSetOf_of_lt maskOk, levelSetOf_of_lt edgeOk, bitOf_of_le nestingOk,
    bitOf_of_le autoEndOk, bitOf_of_gt h]

end AttnSetupRefused

theorem exec_attnSetup (mask edge : BitVec 16) (nesting autoEnd rotate : Byte) (s : State) :
    exec (.attnSetup mask edge nesting autoEnd rotate) s = .next (s.request (.attnSetup mask edge nesting autoEnd rotate)
      (serveAttnSetup mask edge nesting autoEnd rotate)) := rfl

/-- Settles O53: the controller left is `Attention.afterSetup`, each of whose levels turns its mode by R147; the sets of the
reply are read off it bit by bit. -/
theorem attnSetupWritesTheSetup : Obligations.AttnSetupWritesTheSetup := by
  unfold Obligations.AttnSetupWritesTheSetup
  rintro s mask edge nesting autoEnd rotate _ free rfl
  refine ⟨fun maskOk edgeOk nestingOk autoEndOk rotateOk => ?taken, ?refused⟩
  case taken =>
    obtain ⟨changes, attention, answer⟩ := State.request_setAttention free
      (serveAttnSetup_of_inRange maskOk edgeOk nestingOk autoEndOk rotateOk rfl)
    refine ⟨_, (s.attention.afterSetup mask edge nesting autoEnd rotate).levelWord (·.request),
      (s.attention.afterSetup mask edge nesting autoEnd rotate).levelWord (·.inService),
      exec_attnSetup mask edge nesting autoEnd rotate s, changes, ?_⟩
    rw [attention]
    refine ⟨?levels, rfl, rfl, rfl, rfl, Attention.judge_attn _,
      fun l => ⟨Attention.levelWord_getLsbD _ (·.request) l, Attention.levelWord_getLsbD _ (·.inService) l⟩, answer⟩
    case levels =>
      rintro l k rfl
      rw [Attention.afterSetup_level]
      exact ⟨fun same => by rw [same, Level.setEdge_same], fun turned level => by rw [turned, Level.setEdge_true _ level],
        fun turned edge => by rw [turned, Level.setEdge_false _ edge]⟩
  case refused =>
    exact ⟨_, exec_attnSetup mask edge nesting autoEnd rotate s,
      fun h => State.request_onlyAnswers free (serveAttnSetup_mask_range h),
      fun maskOk h => State.request_onlyAnswers free (serveAttnSetup_edge_range maskOk h),
      fun maskOk edgeOk h => State.request_onlyAnswers free (serveAttnSetup_nesting_range maskOk edgeOk h),
      fun maskOk edgeOk nestingOk h =>
        State.request_onlyAnswers free (serveAttnSetup_autoEnd_range maskOk edgeOk nestingOk h),
      fun maskOk edgeOk nestingOk autoEndOk h =>
        State.request_onlyAnswers free (serveAttnSetup_rotate_range maskOk edgeOk nestingOk autoEndOk h)⟩

end Sys2Proof.Machine

/-! SUPPORT. What CELL_SET makes of the cell settings and the next serial, at which field it is refused, and the replies of
IDENT and CELL_READ byte by byte (R135, R177 to R180). -/

namespace Sys2Proof.Machine

/-! ## IDENT and CELL_READ -/

theorem exec_ident (s : State) : exec .ident s = .next (s.request .ident serveIdent) := rfl

theorem exec_cellRead (s : State) : exec .cellRead s = .next (s.request .cellRead serveCellRead) := rfl

/-- IDENT leaves the state as it is, and its items stand in the order of R177. -/
theorem serveIdent_eq (s : State) : serveIdent s =
    (s, [0, 0x4E, 48, 4, 8, 8, 64, 12, if s.link.fast then 1 else 0] ++ le32 s.clock ++
      le16 (BitVec.ofNat 16 s.link.discarded)) := rfl

/-- The contents that CELL_SET and CELL_READ share, byte by byte (R179, R180). -/
theorem cellContents_eq (s : State) : cellContents s =
    [numberByte s.cell.rounding.code, numberByte s.cell.filterTime] ++ le32 (BitVec.ofNat 32 s.history.nextSerial) ++
      [if s.history.exhausted then 1 else 0] := rfl

/-- CELL_READ leaves the state as it is, and sends the line rate behind the shared contents (R180). -/
theorem serveCellRead_eq (s : State) : serveCellRead s =
    (s, [0, numberByte s.cell.rounding.code, numberByte s.cell.filterTime] ++
      le32 (BitVec.ofNat 32 s.history.nextSerial) ++
      [if s.history.exhausted then 1 else 0, if s.link.fast then 1 else 0]) := by
  simp [serveCellRead, cellContents_eq, okReply, flagByte]

/-- Settles O12: both owners leave the state as it is, so the request only answers. -/
theorem identAndCellReadReport : Obligations.IdentAndCellReadReport := by
  unfold Obligations.IdentAndCellReadReport
  intro s free
  exact ⟨⟨_, exec_ident s, State.request_onlyAnswers free (serveIdent_eq s)⟩,
    ⟨_, exec_cellRead s, State.request_onlyAnswers free (serveCellRead_eq s)⟩⟩

/-! ## The fields of CELL_SET -/

/-- The rounding field passes exactly with a code of 7.4 or its keep value (R178). -/
theorem roundingField_passes_iff (b : Byte) : ¬(4 ≤ b.toNat ∧ b.toNat ≤ 254) ↔ b.toNat ≤ 3 ∨ b = 255 := by
  bv_omega

/-- A code of 7.4 names the rounding mode of that code. -/
theorem roundingOfCode_of_le {n : Nat} (h : n ≤ 3) : ∃ mode, roundingOfCode n = some mode ∧ mode.code = n := by
  match n, h with
  | 0, _ | 1, _ | 2, _ | 3, _ => exact ⟨_, rfl, rfl⟩

section CellSet

variable {rounding filterTime : Byte} {serial : BitVec 32} {s : State}

/-- With every field passing, all settings are applied and sent back (R179). -/
theorem serveCellSet_of_passes (mode : rounding.toNat ≤ 3 ∨ rounding = 255) (filter : filterTime.toNat ≤ 100)
    (next : serial = 0 ∨ s.history.nextSerial ≤ serial.toNat) :
    serveCellSet rounding filterTime serial s = (s.applyCell rounding filterTime serial,
      okReply (cellContents (s.applyCell rounding filterTime serial))) := by
  have serialPasses : ¬(serial ≠ 0 ∧ serial.toNat < s.history.nextSerial) := fun ⟨given, below⟩ =>
    next.elim given (Nat.not_le.2 below)
  have passes : failingCellField rounding filterTime serial s = none := by
    rw [failingCellField, if_neg ((roundingField_passes_iff rounding).2 mode), if_neg (Nat.not_lt.2 filter),
      if_neg serialPasses]
  simp only [serveCellSet, passes]

/-- A CELL_SET with a failing field is refused with that field's number, and leaves the state as it is (R178). -/
theorem serveCellSet_of_fails {field : Nat} (fails : failingCellField rounding filterTime serial s = some field) :
    serveCellSet rounding filterTime serial s = (s, rangeReply field) := by
  simp only [serveCellSet, fails]

theorem failingCellField_rounding (h : 3 < rounding.toNat) (given : rounding ≠ 255) :
    failingCellField rounding filterTime serial s = some 1 :=
  if_pos (by bv_omega)

theorem failingCellField_filterTime (mode : rounding.toNat ≤ 3 ∨ rounding = 255) (h : 100 < filterTime.toNat) :
    failingCellField rounding filterTime serial s = some 2 := by
  rw [failingCellField, if_neg ((roundingField_passes_iff rounding).2 mode), if_pos h]

theorem failingCellField_serial (mode : rounding.toNat ≤ 3 ∨ rounding = 255) (filter : filterTime.toNat ≤ 100)
    (given : serial ≠ 0) (h : serial.toNat < s.history.nextSerial) :
    failingCellField rounding filterTime serial s = some 3 := by
  rw [failingCellField, if_neg ((roundingField_passes_iff rounding).2 mode), if_neg (Nat.not_lt.2 filter),
    if_pos ⟨given, h⟩]

variable (rounding filterTime serial s)

/-! ## The settings applied -/

/-- The rounding mode that CELL_SET leaves: the one its field names, the one in force at the keep value (R178). -/
theorem State.applyCell_rounding :
    (rounding = 255 → (s.applyCell rounding filterTime serial).cell.rounding = s.cell.rounding) ∧
    (rounding.toNat ≤ 3 → (s.applyCell rounding filterTime serial).cell.rounding.code = rounding.toNat) := by
  refine ⟨?keep, fun code => ?named⟩
  case keep =>
    rintro rfl
    rfl
  case named =>
    obtain ⟨mode, named, modeCode⟩ := roundingOfCode_of_le code
    simp only [State.applyCell, named, Option.getD_some, modeCode]

@[simp] theorem State.applyCell_filterTime : (s.applyCell rounding filterTime serial).cell.filterTime =
    if filterTime = 0 then s.cell.filterTime else filterTime.toNat := rfl

@[simp] theorem State.applyCell_history : (s.applyCell rounding filterTime serial).history =
    { s.history with nextSerial := if serial = 0 then s.history.nextSerial else serial.toNat } := rfl

@[simp] theorem State.applyCell_link : (s.applyCell rounding filterTime serial).link = s.link := rfl

/-- The settings stand in the cell settings and the history; no other block moves. -/
theorem State.applyCell_onlyChanges :
    OnlyChanges [.cell, .history, .link] s (s.applyCell rounding filterTime serial) :=
  ⟨rfl, fun b hb => by cases b <;> simp_all [State.keeps, State.applyCell]⟩

theorem exec_cellSet : exec (.cellSet rounding filterTime serial) s =
    .next (s.request (.cellSet rounding filterTime serial) (serveCellSet rounding filterTime serial)) := rfl

end CellSet

/-- Settles O13: a CELL_SET whose fields pass leaves `State.applyCell` with its contents in the reply; the refusals follow
the order of the fields. -/
theorem cellSetAppliesOrRefuses : Obligations.CellSetAppliesOrRefuses := by
  unfold Obligations.CellSetAppliesOrRefuses
  intro s rounding filterTime serial free
  refine ⟨fun mode filter next => ⟨_, exec_cellSet rounding filterTime serial s, ?applied⟩,
    ⟨_, exec_cellSet rounding filterTime serial s, ?refused⟩⟩
  case applied =>
    obtain ⟨keep, named⟩ := s.applyCell_rounding rounding filterTime serial
    rw [State.request_of_free _ free, serveCellSet_of_passes mode filter next]
    exact ⟨(s.applyCell_onlyChanges rounding filterTime serial).putInHand _ _ (by simp), keep, named,
      s.applyCell_filterTime rounding filterTime serial, s.applyCell_history rounding filterTime serial,
      State.putInHand_answers _ _ (s.applyCell_link rounding filterTime serial)⟩
  case refused =>
    exact ⟨fun h given => State.request_onlyAnswers free (serveCellSet_of_fails (failingCellField_rounding h given)),
      fun mode h => State.request_onlyAnswers free (serveCellSet_of_fails (failingCellField_filterTime mode h)),
      fun mode filter given h =>
        State.request_onlyAnswers free (serveCellSet_of_fails (failingCellField_serial mode filter given h))⟩

end Sys2Proof.Machine

/-! SUPPORT. A request's row is the request taken from the link by its owner, and what each row is in the state's own
terms: what every later proof reads a command through (R171, R176). -/

namespace Sys2Proof.Machine

/-! ## The rows of the requests -/

/-- The row of a request takes it from the link by its owner (R171, R176; log 1). -/
theorem exec_of_isRequest {c : Instr} (h : c.isRequest = true) (s : State) : exec c s = .next (s.request c (serve c)) := by
  cases c <;> cases h <;> rfl

/-- What an event does, by its row; a request is no event (R176). -/
def State.event (s : State) (c : Instr) : State :=
  match c with
  | .powerOn strap => { State.powerOn strap with pending := s.pending }
  | .byteReceived value => s.receive value
  | .gapTimerExpiry => s.expireGap
  | .replyEnd => s.endReply
  | .closedRise p t => s.closedRise p t
  | .closedFall p t => s.closedFall p t
  | .ejectContactRise p t => s.contactRise p t
  | .ejectContactFall p t => s.contactFall p t
  | .partClearRise p t => s.clearRise p t
  | .partClearFall p t => s.clearFall p t
  | .delayEnd p => s.endDelay p
  | .pulseEnd p => s.endPulse p
  | .zoneSample p z v => s.sampleZone p z v
  | .windowStart p => s.startWindow p
  | .onTimeEnd p z => s.endOnTime p z
  | .loadCellSample v => s.sampleScale v
  | .permitLapse => s.expirePermit
  | .pressInputSample p input level => s.sampleInput p input level
  | .permitCountdownStep => s.stepCountdown
  | _ => s

/-- The row of an event. -/
theorem exec_of_event {c : Instr} (h : c.isRequest = false) (s : State) : exec c s = .next (s.event c) := by
  cases c <;> cases h <;> rfl

/-- What a command does: a request is taken by its owner, an event acts by its row. -/
def State.run (s : State) (c : Instr) : State := if c.isRequest then s.request c (serve c) else s.event c

theorem exec_eq (c : Instr) (s : State) : exec c s = .next (s.run c) := by
  unfold State.run
  split
  next h => exact exec_of_isRequest h s
  next h => exact exec_of_event (by simpa using h) s

/-- A step of the part: the front command, or a millisecond (log 2). -/
theorem step_spec {s t : State} (h : step s = .next t) :
    (s.pending = [] ∧ t = s.tick) ∨ ∃ c rest, s.pending = c :: rest ∧ t = ({ s with pending := rest } : State).run c := by
  unfold step at h
  split at h
  next idle => exact .inl ⟨idle, (Host.Outcome.next.inj h).symm⟩
  next c rest waiting =>
    rw [exec_eq] at h
    exact .inr ⟨c, rest, waiting, (Host.Outcome.next.inj h).symm⟩

/-- A command is a request, or it is an event, which stands for no entry of the link (R176). -/
theorem requestBytes_of_isRequest {c : Instr} (h : c.isRequest = true) :
    ∃ kind payload, requestBytes c = some (kind, payload) := by
  obtain ⟨⟨kind, payload⟩, h⟩ := Option.isSome_iff_exists.1 h
  exact ⟨kind, payload, h⟩

/-- A good frame of a request is taken by the request's owner (R175). -/
theorem answer_of_request {kind : Byte} {payload : List Byte} {c : Instr} (h : decodeRequest kind payload = .request c) :
    answer (.request kind payload) = serve c := by
  funext s
  simp only [answer, h]

theorem answer_of_unknownKind {kind : Byte} {payload : List Byte} (h : decodeRequest kind payload = .unknownKind)
    (s : State) : answer (.request kind payload) s = (s, unknownKindReply) := by
  simp only [answer, h]

theorem answer_of_badLength {kind : Byte} {payload : List Byte} (h : decodeRequest kind payload = .badLength)
    (s : State) : answer (.request kind payload) s = (s, badLengthReply) := by
  simp only [answer, h]

/-- What an entry does to the blocks: nothing, or what a request does that its owner takes (R172, R175). -/
theorem answer_spec (e : Entry) (s : State) : (answer e s).1 = s ∨ ∃ c, (answer e s).1 = (serve c s).1 := by
  cases e with
  | linkError err => exact .inl rfl
  | request kind payload =>
    cases h : decodeRequest kind payload with
    | unknownKind => exact .inl (by rw [answer_of_unknownKind h])
    | badLength => exact .inl (by rw [answer_of_badLength h])
    | request c => exact .inr ⟨c, by rw [answer_of_request h]⟩

end Sys2Proof.Machine

/-! SUPPORT. The laws of the device, read at one press, and the moves of a press that keep them. A move that keeps them all
is stated once, as `PressMove`; the laws of the whole part follow from it press by press. -/

namespace Sys2Proof.Machine

/-! ## The laws at one press -/

section PressLaws

variable (heat : HeatState) (recipe : Option Recipe) (x : Press)

/-- The forced ejector level is on in OFFLINE and HEATING alone (R3). -/
def Press.ForcedOk : Prop := x.forced = true → x.state.allowsForce = true

/-- A press in service has a setup, and a press has its windows and its stroke exactly as its state asks (R36, R55, 1.6). -/
structure Press.InPlace : Prop where
  setup : x.state ≠ .offline → x.setup.isSome
  window : x.windowStart.isSome ↔ x.state ≠ .offline
  stroke : x.stroke.isSome ↔ x.state = .ejecting

/-- A press holds a context exactly in CHARGE_READY..COMMIT_HELD, with the fields its state asks (R24). -/
def Press.ContextOk : Prop :=
  (x.context.isSome ↔ x.state.holdsContext = true) ∧ ∀ c, x.context = some c → c.fits x.state

/-- A zone without duty, integral and heat, as a hold-off cause leaves it (R47). -/
def Zone.Cold (q : Zone) : Prop := q.pending = 0 ∧ q.applied = 0 ∧ q.heater = false ∧ q.integral = 0

/-- A zone's duties lie within a bound, its stored one in MANUAL (R54). -/
def Zone.Within (bound : Nat) (q : Zone) : Prop :=
  q.pending ≤ bound ∧ q.applied ≤ bound ∧ (q.mode = .manual → q.manual ≤ bound)

/-- A zone's stored manual duty is at most 1000, and its heater is on under an applied duty alone (R54, R58). -/
def Zone.Sane (q : Zone) : Prop := q.manual ≤ 1000 ∧ (q.heater = true → 0 < q.applied)

/-- The zones of a press keep the law of duties, in a heat state and under a recipe (R47, R54, R58). -/
def Press.DutyOk : Prop := ∀ z : ZoneId, (x.heldOff heat z = true → x.zones[z].Cold) ∧
  (∀ r, recipe = some r → x.zones[z].Within r.maxDuty) ∧ x.zones[z].Sane

/-- The setpoints of a press are those of a recipe, a heat state and its segment (R68, R69). -/
def Press.SetpointOk : Prop := ∀ z : ZoneId,
  x.setpoints[z] = match recipe with | some r => effectiveSetpoint r heat x.segment z | none => 0

/-- The serial of the context a press holds. -/
def Press.serial : Option Nat := x.context.map fun c => c.panel.serial

end PressLaws

/-! ## Moves of a press -/

/-- What every move of a press from `x` to `y` keeps, in a heat state and under a recipe: its setup, and the laws of the
forced level, of the duties and of the setpoints where they held. -/
structure PressCore (heat : HeatState) (recipe : Option Recipe) (x y : Press) : Prop where
  setup : y.setup = x.setup
  forced : x.ForcedOk → y.ForcedOk
  duty : (∀ r, recipe = some r → r.maxDuty ≤ 1000) → x.DutyOk heat recipe → y.DutyOk heat recipe
  setpoint : x.SetpointOk heat recipe → y.SetpointOk heat recipe

/-- A move that keeps in addition the serial, the places in the scale queue and the commit wait list, and the laws of the
press's own place and context. -/
structure PressMove (heat : HeatState) (recipe : Option Recipe) (x y : Press) : Prop extends
    PressCore heat recipe x y where
  waits : y.state = .chargeWait ↔ x.state = .chargeWait
  held : y.state = .commitHeld ↔ x.state = .commitHeld
  serial : y.serial = x.serial
  place : x.InPlace → y.InPlace
  context : x.ContextOk → y.ContextOk

section Moves

variable {heat : HeatState} {recipe : Option Recipe} {x y w : Press}

theorem PressCore.refl (x : Press) : PressCore heat recipe x x := ⟨rfl, id, fun _ => id, id⟩

theorem PressCore.trans (h : PressCore heat recipe x y) (k : PressCore heat recipe y w) : PressCore heat recipe x w :=
  ⟨k.setup.trans h.setup, k.forced ∘ h.forced, fun hr => k.duty hr ∘ h.duty hr, k.setpoint ∘ h.setpoint⟩

theorem PressMove.refl (x : Press) : PressMove heat recipe x x := ⟨.refl x, .rfl, .rfl, rfl, id, id⟩

theorem PressMove.trans (h : PressMove heat recipe x y) (k : PressMove heat recipe y w) : PressMove heat recipe x w :=
  ⟨h.toPressCore.trans k.toPressCore, k.waits.trans h.waits, k.held.trans h.held, k.serial.trans h.serial,
    k.place ∘ h.place, k.context ∘ h.context⟩

/-- The outputs of a press are not read by any of its laws but that of the pins. -/
theorem PressMove.drive (x : Press) : PressMove heat recipe x x.drive :=
  ⟨⟨rfl, id, fun _ => id, id⟩, .rfl, .rfl, rfl, fun h => ⟨h.setup, h.window, h.stroke⟩, id⟩

/-- A move in some cases, and otherwise none. -/
theorem PressMove.ite {c : Prop} [Decidable c] {y w : Press} (h : c → PressMove heat recipe x y)
    (k : ¬c → PressMove heat recipe x w) : PressMove heat recipe x (if c then y else w) := by
  split
  · exact h ‹_›
  · exact k ‹_›

/-! ## What a press may change without touching a law -/

/-- A press as the laws read it: inputs, captures, change flags, outputs, readiness, the last step and the frozen mark left
out. -/
structure SameMarks (x y : Press) : Prop where
  state : y.state = x.state
  setup : y.setup = x.setup
  stroke : y.stroke.isSome = x.stroke.isSome
  context : y.context = x.context
  forced : y.forced = x.forced
  window : y.windowStart.isSome = x.windowStart.isSome
  zones : y.zones = x.zones
  setpoints : y.setpoints = x.setpoints
  segment : y.segment = x.segment

theorem Press.isActive_congr (hs : y.setup = x.setup) (z : ZoneId) : y.isActive z = x.isActive z := by
  simp only [Press.isActive, hs]

/-- The hold-off causes depend on the heat state, the press's state and setup, and the zone's mode and sensor (R47). -/
theorem Press.heldOff_congr {z : ZoneId} (hs : y.state = x.state) (hu : y.setup = x.setup)
    (hm : y.zones[z].mode = x.zones[z].mode) (hf : y.zones[z].sensor = x.zones[z].sensor) :
    y.heldOff heat z = x.heldOff heat z := by
  simp only [Press.heldOff, hs, Press.isActive_congr hu, hm, hf]

theorem PressMove.of_sameMarks (h : SameMarks x y) : PressMove heat recipe x y where
  setup := h.setup
  waits := by rw [h.state]
  held := by rw [h.state]
  serial := by rw [Press.serial, h.context]; rfl
  forced := by simp only [Press.ForcedOk, h.state, h.forced, imp_self]
  place k := ⟨by rw [h.state, h.setup]; exact k.setup, by rw [h.window, h.state]; exact k.window,
    by rw [h.stroke, h.state]; exact k.stroke⟩
  context := by simp only [Press.ContextOk, h.state, h.context, imp_self]
  duty _ k z := by
    rw [Press.heldOff_congr h.state h.setup (by rw [h.zones]) (by rw [h.zones]), h.zones]
    exact k z
  setpoint := by simp only [Press.SetpointOk, h.setpoints, h.segment, imp_self]

/-! ## The context changed -/

/-- A change of a context that keeps its serial and the fields that a press state asks. -/
def ContextMove (f : CycleContext → CycleContext) : Prop :=
  ∀ c, (f c).panel.serial = c.panel.serial ∧ ∀ st, c.fits st → (f c).fits st

/-- Flags are in no press state's demand (R126). -/
theorem ContextMove.onFlags (f : RecordFlags → RecordFlags) : ContextMove (CycleContext.onFlags f) :=
  fun c => ⟨rfl, fun st => by cases st <;> exact id⟩

theorem PressMove.onContext {f : CycleContext → CycleContext} (h : ContextMove f) (x : Press) :
    PressMove heat recipe x (x.onContext f) where
  setup := rfl
  waits := .rfl
  held := .rfl
  serial := by
    rw [Press.serial, Press.serial, Press.onContext_context, Option.map_map]
    exact Option.map_congr fun c _ => (h c).1
  forced := id
  place k := ⟨k.setup, k.window, k.stroke⟩
  context := fun ⟨present, fits⟩ => by
    refine ⟨by simpa using present, fun d hd => ?_⟩
    obtain ⟨c, hc, rfl⟩ := Option.map_eq_some_iff.1 hd
    exact (h c).2 _ (fits c hc)
  duty _ := id
  setpoint := id

theorem PressMove.addFlag (f : RecordFlags → RecordFlags) (x : Press) : PressMove heat recipe x (x.addFlag f) :=
  .onContext (.onFlags f) x

/-! ## The zones changed -/

/-- A change of zones moves nothing but the law of duties. -/
theorem PressMove.of_zones {zones : Vector Zone 8}
    (h : (∀ r, recipe = some r → r.maxDuty ≤ 1000) → x.DutyOk heat recipe →
      Press.DutyOk heat recipe { x with zones := zones }) :
    PressMove heat recipe x { x with zones := zones } :=
  ⟨⟨rfl, id, h, id⟩, .rfl, .rfl, rfl, fun k => ⟨k.setup, k.window, k.stroke⟩, id⟩

/-- Cold zones keep every bound. -/
theorem Zone.Cold.within {q : Zone} (h : q.Cold) (bound : Nat) (hm : q.mode = .manual → q.manual ≤ bound) :
    q.Within bound := by
  obtain ⟨hp, ha, -, -⟩ := h
  exact ⟨by omega, by omega, hm⟩

theorem Zone.holdOff_cold (q : Zone) : q.holdOff.Cold := ⟨rfl, rfl, rfl, rfl⟩

/-- Holding a zone off keeps its bounds. -/
theorem Zone.Within.holdOff {q : Zone} {bound : Nat} (h : q.Within bound) : q.holdOff.Within bound :=
  q.holdOff_cold.within bound h.2.2

theorem Zone.Sane.holdOff {q : Zone} (h : q.Sane) : q.holdOff.Sane := ⟨h.1, by simp⟩

end Moves

end Sys2Proof.Machine

/-! SUPPORT. What it is for an event to keep the laws of pins, presses, serials, platens and setpoints, and the rule for the
events that move presses without moving them between the queues. -/

namespace Sys2Proof.Machine

/-! ## The laws of the part, press by press -/

section Laws

variable {s t : State}

theorem pinLaw_iff : PinLaw s ↔ ∀ p, (s.press p).drive = s.press p ∧ (s.press p).ForcedOk := by
  have allows (x : Press) : x.state.allowsForce = true ↔ x.state = .offline ∨ x.state = .heating := by
    cases h : x.state <;> simp [PressState.allowsForce]
  refine ⟨fun h p => ⟨h.drive_eq p, fun f => (allows _).2 ((h p).2.2 f)⟩, fun h p => ?_⟩
  obtain ⟨driven, forced⟩ := h p
  refine ⟨?_, ?_, fun f => (allows _).1 (forced f)⟩
  · rw [← driven]; simp
  · rw [← driven]
    simp only [Press.drive_ejector, Press.drive_state, Press.drive_forced, Press.ejectorLevel, Bool.or_eq_true,
      Bool.and_eq_true, beq_iff_eq, ← allows, Press.inPulse, Press.drive_stroke]
    rcases (s.press p).stroke with _ | _ | _ <;> simp

theorem setupLaw_iff : SetupLaw s ↔
    ∀ p, (s.press p).InPlace ∧ ∀ u, (s.press p).setup = some u → s.recipes[u.slot].isSome ∧ u.zones ≠ 0 :=
  forall_congr' fun _ => ⟨fun ⟨a, b, c, d⟩ => ⟨⟨a, c, d⟩, b⟩, fun ⟨⟨a, c, d⟩, b⟩ => ⟨a, b, c, d⟩⟩

theorem contextLaw_iff : ContextLaw s ↔ ∀ p, (s.press p).ContextOk := .rfl

theorem dutyLaw_iff : DutyLaw s ↔ ∀ p, (s.press p).DutyOk s.heat.state (s.recipeOf p) := .rfl

theorem setpointLaw_iff : SetpointLaw s ↔ ∀ p, (s.press p).SetpointOk s.heat.state (s.recipeOf p) := .rfl

theorem openSerials_eq : openSerials s = allPresses.filterMap fun p => (s.press p).serial := rfl

/-- The recipe a press reads has a max_duty of at most 1000 (R28). -/
theorem RecipeLaw.maxDuty_le {r : Recipe} (h : RecipeLaw s) {p : PressId} (hr : s.recipeOf p = some r) :
    r.maxDuty ≤ 1000 := by
  unfold State.recipeOf at hr
  split at hr
  · obtain ⟨-, -, -, -, -, -, bound, -⟩ := h.1 _ _ hr
    exact bound
  · cases hr

end Laws

/-! ## Keeping the laws -/

/-- The law of the queues without its clause that the history queue is full while a press waits for it: what stands while
HISTORY_ACK releases held presses (R130). -/
structure OpenQueueLaw (s : State) : Prop where
  waits : ∀ p, p ∈ s.scale.queue ↔ (s.press p).state = .chargeWait
  nodup : s.scale.queue.Nodup
  held : ∀ p, p ∈ s.history.waitList ↔ (s.press p).state = .commitHeld
  heldNodup : s.history.waitList.Nodup
  capacity : s.history.records.length ≤ 64
  run : ∀ p, (s.press p).state = .chargeWait → s.heat.state = .run

/-- The history queue is full while a press waits for it (R128). -/
def FullLaw (s : State) : Prop := s.history.waitList ≠ [] → s.history.records.length = 64

/-- The law of the presses and their queues, the full history queue apart. -/
structure OpenLaw (s : State) : Prop where
  setups : SetupLaw s
  contexts : ContextLaw s
  queues : OpenQueueLaw s

theorem cycleLaw_iff {s : State} : CycleLaw s ↔ OpenLaw s ∧ FullLaw s :=
  ⟨fun ⟨setups, contexts, a, b, c, d, e, full, f⟩ => ⟨⟨setups, contexts, a, b, c, d, e, f⟩, full⟩,
    fun ⟨⟨setups, contexts, a, b, c, d, e, f⟩, full⟩ => ⟨setups, contexts, a, b, c, d, e, full, f⟩⟩

/-- An event keeps the laws of the pins, the serials, the setpoints and the presses, the full history queue apart, and that
of the platens under that of the presses. -/
structure KeepsOpen (s t : State) : Prop where
  pins : PinLaw s → PinLaw t
  serials : SerialLaw s → SerialLaw t
  setpoints : SetpointLaw s → SetpointLaw t
  places : OpenLaw s → OpenLaw t
  platens : OpenLaw s → PlatenLaw s → PlatenLaw t

/-- An event keeps all those laws. -/
structure Keeps (s t : State) : Prop extends KeepsOpen s t where
  full : OpenLaw s → FullLaw s → FullLaw t

theorem Keeps.cycle {s t : State} (h : Keeps s t) (c : CycleLaw s) : CycleLaw t := by
  rw [cycleLaw_iff] at c ⊢
  exact ⟨h.places c.1, h.full c.1 c.2⟩

theorem KeepsOpen.refl (s : State) : KeepsOpen s s := ⟨id, id, id, id, fun _ => id⟩

theorem KeepsOpen.trans {s t v : State} (h : KeepsOpen s t) (k : KeepsOpen t v) : KeepsOpen s v :=
  ⟨k.pins ∘ h.pins, k.serials ∘ h.serials, k.setpoints ∘ h.setpoints, k.places ∘ h.places,
    fun c => k.platens (h.places c) ∘ h.platens c⟩

theorem Keeps.refl (s : State) : Keeps s s := ⟨.refl s, fun _ => id⟩

theorem Keeps.trans {s t v : State} (h : Keeps s t) (k : Keeps t v) : Keeps s v :=
  ⟨h.toKeepsOpen.trans k.toKeepsOpen, fun c => k.full (h.places c) ∘ h.full c⟩

/-- An event that happens in some cases. -/
theorem Keeps.ite {c : Prop} [Decidable c] {s t v : State} (h : c → Keeps s t) (k : ¬c → Keeps s v) :
    Keeps s (if c then t else v) := by
  split
  · exact h ‹_›
  · exact k ‹_›

/-! ## Events that move presses -/

/-- An event moves presses by moves of `PressCore`, and leaves recipes and heat state as they were. -/
structure CoreEvent (s t : State) : Prop where
  press : ∀ p, t.press p = s.press p ∨
    ∃ y, PressCore s.heat.state (s.recipeOf p) (s.press p) y ∧ t.press p = y.drive
  recipes : t.recipes = s.recipes
  heat : t.heat.state = s.heat.state

section Core

variable {s t : State} (h : CoreEvent s t)

include h

/-- A press has moved, outputs included. -/
theorem CoreEvent.move (p : PressId) : PressCore s.heat.state (s.recipeOf p) (s.press p) (t.press p) := by
  rcases h.press p with e | ⟨y, move, e⟩
  · rw [e]; exact .refl _
  · rw [e]; exact move.trans (PressMove.drive y).toPressCore

theorem CoreEvent.recipeOf (p : PressId) : t.recipeOf p = s.recipeOf p :=
  State.recipeOf_congr (h.move p).setup h.recipes

theorem CoreEvent.pins (k : PinLaw s) : PinLaw t := by
  rw [pinLaw_iff] at k ⊢
  intro p
  refine ⟨?_, (h.move p).forced (k p).2⟩
  rcases h.press p with e | ⟨y, -, e⟩
  · rw [e]; exact (k p).1
  · rw [e, Press.drive_drive]

theorem CoreEvent.setpoints (k : SetpointLaw s) : SetpointLaw t := by
  rw [setpointLaw_iff] at k ⊢
  intro p
  rw [h.heat, h.recipeOf]
  exact (h.move p).setpoint (k p)

theorem CoreEvent.platens (setups : SetupLaw t) (k : PlatenLaw s) : PlatenLaw t := by
  obtain ⟨recipes, duties⟩ := k
  have named (p : PressId) := setups p
  refine ⟨⟨by rw [h.recipes]; exact recipes.1, fun p => ⟨(named p).1, fun u hu => ((named p).2.1 u hu).1⟩⟩,
    dutyLaw_iff.2 fun p => ?_⟩
  rw [h.heat, h.recipeOf]
  exact (h.move p).duty (fun r hr => recipes.maxDuty_le hr) (dutyLaw_iff.1 duties p)

/-- Such an event keeps the laws when it keeps those of the serials and of the presses' places. -/
theorem CoreEvent.keepsOpen (serials : SerialLaw s → SerialLaw t) (places : OpenLaw s → OpenLaw t) : KeepsOpen s t :=
  ⟨h.pins, serials, h.setpoints, places, fun c => h.platens (places c).setups⟩

end Core

/-- A law of the setups after one press has moved and kept its setup. -/
theorem SetupLaw.of_press {s t : State} {p : PressId} (h : SetupLaw s) (others : ∀ q, q ≠ p → t.press q = s.press q)
    (recipes : t.recipes = s.recipes) (setup : (t.press p).setup = (s.press p).setup)
    (place : (s.press p).InPlace → (t.press p).InPlace) : SetupLaw t := by
  rw [setupLaw_iff] at h ⊢
  intro q
  rw [recipes]
  by_cases e : q = p
  · subst e
    rw [setup]
    exact ⟨place (h q).1, (h q).2⟩
  · rw [others q e]; exact h q

/-- The law of the contexts after one press has moved. -/
theorem ContextLaw.of_press {s t : State} {p : PressId} (h : ContextLaw s)
    (others : ∀ q, q ≠ p → t.press q = s.press q) (context : (s.press p).ContextOk → (t.press p).ContextOk) :
    ContextLaw t := by
  intro q
  by_cases e : q = p
  · subst e; exact context (h q)
  · rw [others q e]; exact h q

/-! ## Events that leave every press in its queue -/

/-- An event moves presses by moves of `PressMove`, and leaves recipes, heat state, scale queue and part history as they
were. -/
structure LocalEvent (s t : State) : Prop where
  press : ∀ p, t.press p = s.press p ∨
    ∃ y, PressMove s.heat.state (s.recipeOf p) (s.press p) y ∧ t.press p = y.drive
  recipes : t.recipes = s.recipes
  heat : t.heat.state = s.heat.state
  queue : t.scale.queue = s.scale.queue
  history : t.history = s.history

section Local

variable {s t : State} (h : LocalEvent s t)

include h

theorem LocalEvent.core : CoreEvent s t where
  press p := (h.press p).imp_right fun ⟨y, move, e⟩ => ⟨y, move.toPressCore, e⟩
  recipes := h.recipes
  heat := h.heat

/-- A press of a local event has moved, outputs included. -/
theorem LocalEvent.move (p : PressId) : PressMove s.heat.state (s.recipeOf p) (s.press p) (t.press p) := by
  rcases h.press p with e | ⟨y, move, e⟩
  · rw [e]; exact .refl _
  · rw [e]; exact move.trans (.drive y)

theorem LocalEvent.serials (k : SerialLaw s) : SerialLaw t := by
  have serials : (fun p => (t.press p).serial) = fun p => (s.press p).serial := funext fun p => (h.move p).serial
  have live : liveSerials t = liveSerials s := by
    rw [liveSerials, liveSerials, openSerials_eq, openSerials_eq, h.history, serials]
  simpa only [SerialLaw, live, h.history] using k

theorem LocalEvent.setups (k : SetupLaw s) : SetupLaw t := by
  rw [setupLaw_iff] at k ⊢
  intro p
  obtain ⟨place, named⟩ := k p
  rw [(h.move p).setup, h.recipes]
  exact ⟨(h.move p).place place, named⟩

theorem LocalEvent.queues (k : OpenQueueLaw s) : OpenQueueLaw t where
  waits p := by rw [h.queue, (h.move p).waits]; exact k.waits p
  nodup := by rw [h.queue]; exact k.nodup
  held p := by rw [h.history, (h.move p).held]; exact k.held p
  heldNodup := by rw [h.history]; exact k.heldNodup
  capacity := by rw [h.history]; exact k.capacity
  run p := by rw [h.heat, (h.move p).waits]; exact k.run p

theorem LocalEvent.keeps : Keeps s t :=
  ⟨h.core.keepsOpen h.serials fun ⟨setups, contexts, queues⟩ =>
    ⟨h.setups setups, fun p => (h.move p).context (contexts p), h.queues queues⟩,
    fun _ full => by simpa only [FullLaw, h.history] using full⟩

end Local

/-- An event that moves no press and none of what the laws read. -/
theorem Keeps.quiet {s t : State} (presses : t.presses = s.presses) (recipes : t.recipes = s.recipes)
    (heat : t.heat.state = s.heat.state) (queue : t.scale.queue = s.scale.queue) (history : t.history = s.history) :
    Keeps s t :=
  LocalEvent.keeps ⟨fun p => .inl (by simp only [State.press, presses]), recipes, heat, queue, history⟩

/-- A change of one press. -/
theorem Keeps.modPress {s : State} {p : PressId} {f : Press → Press}
    (h : PressMove s.heat.state (s.recipeOf p) (s.press p) (f (s.press p))) : Keeps s (s.modPress p f) := by
  refine LocalEvent.keeps ⟨fun q => ?_, rfl, rfl, rfl, rfl⟩
  by_cases e : q = p
  · subst e
    exact .inr ⟨_, h, s.modPress_press_self q f⟩
  · exact .inl (s.modPress_press_ne p q f e)

/-- A change of every press. -/
theorem Keeps.modAll {s : State} {f : PressId → Press → Press}
    (h : ∀ p, PressMove s.heat.state (s.recipeOf p) (s.press p) (f p (s.press p))) : Keeps s (s.modAll f) :=
  LocalEvent.keeps ⟨fun p => .inr ⟨_, h p, s.modAll_press f p⟩, rfl, rfl, rfl, rfl⟩

/-- The end of an event. -/
theorem Keeps.settle (s : State) : Keeps s s.settle := .quiet rfl rfl rfl rfl rfl

/-- An event and its end. -/
theorem Keeps.settled {s t : State} (h : Keeps s t) : Keeps s t.settle := h.trans (.settle t)

theorem Keeps.putInHand (s : State) (e : Entry) (r : Reply) : Keeps s (s.putInHand e r) := .quiet rfl rfl rfl rfl rfl

end Sys2Proof.Machine

/-! SUPPORT. The events that move a press between the scale queue, the history queue and the commit wait list, and the laws
they keep (R8, R10, R21, R78, R116, R128). -/

namespace Sys2Proof.Machine

/-! ## Serials -/

section Serials

variable (s : State) (p : PressId)

/-- The serials of the contexts that the presses other than one hold. -/
def otherSerials : List Nat := (allPresses.erase p).filterMap fun q => (s.press q).serial

theorem otherSerials_congr {s t : State} {p : PressId} (others : ∀ q, q ≠ p → t.press q = s.press q) :
    otherSerials t p = otherSerials s p :=
  List.filterMap_congr fun q hq => by rw [others q ((List.nodup_finRange 4).mem_erase_iff.1 hq).1]

/-- The live serials, that of one press apart. -/
theorem liveSerials_perm : (liveSerials s).Perm
    (s.history.records.map PartRecord.serial ++ ((s.press p).serial.toList ++ otherSerials s p)) := by
  have split : (openSerials s).Perm ((s.press p).serial.toList ++ otherSerials s p) := by
    refine ((List.perm_cons_erase (List.mem_finRange p)).filterMap _).trans ?_
    rw [List.filterMap_cons, otherSerials]
    cases h : (s.press p).serial <;> simp only [Press.serial] at h <;> simp [h, allPresses, Press.serial]
  exact split.append_left _

variable {s} {t : State}

/-- Serials that are left over keep their law, under the same next serial. -/
theorem SerialLaw.of_subperm (h : SerialLaw s) (live : (liveSerials t).Subperm (liveSerials s))
    (next : t.history.nextSerial = s.history.nextSerial) (exhausted : t.history.exhausted = s.history.exhausted) :
    SerialLaw t := by
  obtain ⟨nodup, assigned, bounds⟩ := h
  obtain ⟨l, perm, sub⟩ := live
  refine ⟨(perm.nodup_iff).1 (nodup.sublist sub), fun n hn => ?_, ?_⟩
  · rw [next, exhausted]
    exact assigned n (sub.subset (perm.mem_iff.2 hn))
  · rw [next, exhausted]
    exact bounds

/-- An event that keeps every press's serial and the history's records and next serial. -/
theorem SerialLaw.of_same (h : SerialLaw s) (serial : ∀ q, (t.press q).serial = (s.press q).serial)
    (records : t.history.records = s.history.records) (next : t.history.nextSerial = s.history.nextSerial)
    (exhausted : t.history.exhausted = s.history.exhausted) : SerialLaw t := by
  have same : liveSerials t = liveSerials s := by
    rw [liveSerials, liveSerials, openSerials_eq, openSerials_eq, records, funext serial]
  exact h.of_subperm (same ▸ .refl _) next exhausted

end Serials

/-! ## One press changes its place -/

/-- One press moves to `y`, and leaves its place in a queue or takes one there; recipes, heat state and the other presses stay
as they were. -/
structure Relocates (p : PressId) (y : Press) (s t : State) : Prop where
  core : PressCore s.heat.state (s.recipeOf p) (s.press p) y
  self : t.press p = y.drive
  others : ∀ q, q ≠ p → t.press q = s.press q
  recipes : t.recipes = s.recipes
  heat : t.heat.state = s.heat.state
  place : OpenLaw s → (s.press p).InPlace → y.InPlace
  context : OpenLaw s → (s.press p).ContextOk → y.ContextOk

section Relocates

variable {p : PressId} {y : Press} {s t : State} (h : Relocates p y s t)

include h

theorem Relocates.coreEvent : CoreEvent s t := by
  refine ⟨fun q => ?_, h.recipes, h.heat⟩
  by_cases e : q = p
  · subst e; exact .inr ⟨y, h.core, h.self⟩
  · exact .inl (h.others q e)

theorem Relocates.keepsOpen (serials : SerialLaw s → SerialLaw t)
    (queues : OpenLaw s → OpenQueueLaw s → OpenQueueLaw t) : KeepsOpen s t := by
  refine h.coreEvent.keepsOpen serials fun places => ⟨?_, ?_, queues places places.queues⟩
  · refine places.setups.of_press h.others h.recipes (h.coreEvent.move p).setup fun place => ?_
    rw [h.self]
    exact (PressMove.drive (heat := s.heat.state) (recipe := none) y).place (h.place places place)
  · refine places.contexts.of_press h.others fun context => ?_
    rw [h.self]
    exact h.context places context

theorem Relocates.state (q : PressId) : (t.press q).state = if q = p then y.state else (s.press q).state := by
  split
  next e => subst e; rw [h.self, Press.drive_state]
  next e => rw [h.others q e]

/-- The serials after a press has moved with its serial. -/
theorem Relocates.serials (serial : y.serial = (s.press p).serial) (records : t.history.records = s.history.records)
    (next : t.history.nextSerial = s.history.nextSerial) (exhausted : t.history.exhausted = s.history.exhausted)
    (k : SerialLaw s) : SerialLaw t := by
  refine k.of_same (fun q => ?_) records next exhausted
  by_cases e : q = p
  · subst e; rw [h.self]; exact serial
  · rw [h.others q e]

/-- The law of the queues after a press has changed its place: the scale queue and the commit wait list hold the others as
before, and the press as its new state says. -/
theorem Relocates.queues (k : OpenQueueLaw s)
    (queue : ∀ q, q ∈ t.scale.queue ↔ if q = p then y.state = .chargeWait else q ∈ s.scale.queue)
    (nodup : t.scale.queue.Nodup)
    (list : ∀ q, q ∈ t.history.waitList ↔ if q = p then y.state = .commitHeld else q ∈ s.history.waitList)
    (listNodup : t.history.waitList.Nodup) (capacity : t.history.records.length ≤ 64)
    (run : y.state = .chargeWait → s.heat.state = .run) : OpenQueueLaw t := by
  refine ⟨fun q => ?_, nodup, fun q => ?_, listNodup, capacity, fun q => ?_⟩
  · rw [queue, h.state]; split
    · rfl
    · exact k.waits q
  · rw [list, h.state]; split
    · rfl
    · exact k.held q
  · rw [h.state, h.heat]; split
    · exact run
    · exact k.run q

/-- A press that is not on a list, and does not come onto it. -/
theorem mem_iff_of_away {l : List PressId} {st st' : PressState} {x : Press} (mem : p ∈ l ↔ x.state = st)
    (away : x.state ≠ st) (stays : st' ≠ st) (q : PressId) : q ∈ l ↔ if q = p then st' = st else q ∈ l := by
  split
  next e => subst e; simp [mem, away, stays]
  next => rfl

/-- An event that leaves the part history as it was, and takes and leaves no held press. -/
theorem Relocates.keepsQueue (history : t.history = s.history) (serial : y.serial = (s.press p).serial)
    (free : (s.press p).state ≠ .commitHeld) (notHeld : y.state ≠ .commitHeld)
    (queue : OpenQueueLaw s → ∀ q, q ∈ t.scale.queue ↔ if q = p then y.state = .chargeWait else q ∈ s.scale.queue)
    (nodup : OpenQueueLaw s → t.scale.queue.Nodup) (run : y.state = .chargeWait → s.heat.state = .run) : Keeps s t := by
  refine ⟨h.keepsOpen (h.serials serial (by rw [history]) (by rw [history]) (by rw [history])) fun _ k => ?_,
    fun _ full => by simpa only [FullLaw, history] using full⟩
  refine h.queues k (queue k) (nodup k) (fun q => ?_) ?_ ?_ run
  · rw [history]
    exact mem_iff_of_away h (k.held p) free notHeld q
  · rw [history]; exact k.heldNodup
  · rw [history]; exact k.capacity

end Relocates

/-- A press that is not in the queue joins its tail. -/
theorem mem_append_self_iff {l : List PressId} {p : PressId} (q : PressId) :
    q ∈ l ++ [p] ↔ if q = p then True else q ∈ l := by
  split <;> simp_all

theorem nodup_append_self {l : List PressId} {p : PressId} (h : l.Nodup) (fresh : p ∉ l) : (l ++ [p]).Nodup :=
  List.nodup_append.2 ⟨h, List.nodup_singleton p, by simpa using fun q hq => ne_of_mem_of_not_mem hq fresh⟩

theorem mem_filter_ne_iff {l : List PressId} {p : PressId} (q : PressId) :
    q ∈ l.filter (· ≠ p) ↔ if q = p then False else q ∈ l := by
  split <;> simp_all

/-! ## A press enters a state -/

section Enter

variable {heat : HeatState} {recipe : Option Recipe} {x : Press} {st : PressState}

/-- A press enters a state of service: its duties stay where they were. -/
theorem PressCore.enter (x : Press) (service : st ≠ .offline) : PressCore heat recipe x (x.enter st) where
  setup := rfl
  forced _ h := by
    simp only [Press.enter_forced, Bool.and_eq_true] at h
    exact h.2
  duty _ h z := by
    refine ⟨fun held => (h z).1 ?_, (h z).2⟩
    simp only [Press.heldOff_iff, Press.enter_state] at held ⊢
    rcases held with a | a | a
    · exact .inl a
    · exact absurd a service
    · exact .inr (.inr a)
  setpoint := id

theorem Press.InPlace.enter (h : x.InPlace) (hx : x.state ≠ .offline) (hs : x.state ≠ .ejecting)
    (service : st ≠ .offline) (rest : st ≠ .ejecting) : (x.enter st).InPlace where
  setup _ := h.setup hx
  window := by simpa [service] using h.window.2 hx
  stroke := by simpa [rest, hs] using h.stroke

/-- A press in a state without a context holds none. -/
theorem Press.ContextOk.of_none (context : x.context = none) (st : x.state.holdsContext = false) : x.ContextOk := by
  simp [Press.ContextOk, context, st]

theorem Press.ContextOk.context_eq_none (h : x.ContextOk) (st : x.state.holdsContext = false) : x.context = none := by
  simpa [st] using h.1

theorem Press.ContextOk.enter_of_none (h : x.ContextOk) (hx : x.state.holdsContext = false)
    (hs : st.holdsContext = false) : (x.enter st).ContextOk :=
  .of_none (h.context_eq_none hx) hs

end Enter

/-! ## Admission -/

/-- A press that is admitted joins the tail of the scale queue (R78). -/
theorem Keeps.evaluateAdmission (s : State) (p : PressId) : Keeps s (s.evaluateAdmission p) := by
  rcases s.evaluateAdmission_spec p with ⟨heating, admits, e⟩ | ⟨-, e⟩
  case inr => rw [e]; exact .refl s
  have moves : Relocates p ((s.press p).enter .chargeWait) s (s.evaluateAdmission p) :=
    { core := .enter _ nofun
      self := by rw [e]; exact s.modPress_press_self p _
      others := fun q => by rw [e]; exact s.modPress_press_ne p q _
      recipes := by rw [e]; rfl
      heat := by rw [e]; rfl
      place := fun _ place => place.enter (by simp [heating]) (by simp [heating]) nofun nofun
      context := fun _ context => context.enter_of_none (by rw [heating]; rfl) rfl }
  have run : s.heat.state = .run := ((s.admits_iff p).1 admits).1
  have queue : (s.evaluateAdmission p).scale.queue = s.scale.queue ++ [p] := by rw [e]
  refine moves.keepsQueue (by rw [e]; rfl) rfl (by simp [heating]) nofun (fun _ q => ?_) (fun k => ?_) fun _ => run
  · rw [queue, mem_append_self_iff]
    simp
  · rw [queue]
    exact nodup_append_self k.nodup (by simp [k.waits, heating])

/-! ## Leaving the scale queue -/

/-- A press that leaves the scale queue for HEATING (R8). -/
theorem Keeps.leaveToHeating {s : State} {p : PressId} (waits : (s.press p).state = .chargeWait) :
    Keeps s ((s.leaveQueue p).modPress p (Press.enter .heating)) := by
  have moves : Relocates p ((s.press p).enter .heating) s ((s.leaveQueue p).modPress p (Press.enter .heating)) :=
    { core := .enter _ nofun
      self := (s.leaveQueue p).modPress_press_self p _
      others := fun q => (s.leaveQueue p).modPress_press_ne p q _
      recipes := rfl
      heat := rfl
      place := fun _ place => place.enter (by simp [waits]) (by simp [waits]) nofun nofun
      context := fun _ context => context.enter_of_none (by rw [waits]; rfl) rfl }
  exact moves.keepsQueue rfl rfl (by simp [waits]) nofun (fun _ q => (mem_filter_ne_iff q).trans (by simp))
    (fun k => k.nodup.filter _) nofun

theorem Keeps.withdraw {s : State} {p : PressId} (waits : (s.press p).state = .chargeWait) : Keeps s (s.withdraw p) :=
  (Keeps.leaveToHeating waits).trans (.evaluateAdmission _ p)

/-- A press out of service: its zones are cold (R47). -/
theorem Press.toOffline_duty {heat : HeatState} {recipe : Option Recipe} {x : Press} (h : x.DutyOk heat recipe) :
    x.toOffline.DutyOk heat recipe := by
  intro z
  have zone : x.toOffline.zones[z] = x.zones[z].holdOff := Press.modZones_zone ..
  obtain ⟨-, bound, sane⟩ := h z
  rw [zone]
  exact ⟨fun _ => Zone.holdOff_cold _, fun r hr => (bound r hr).holdOff, sane.holdOff⟩

/-- A press that goes out of service leaves the scale queue, its windows and its duties (R9). -/
theorem Keeps.disable {s : State} {p : PressId} (from_ : (s.press p).state = .heating ∨ (s.press p).state = .chargeWait) :
    Keeps s ((s.leaveQueue p).modPress p Press.toOffline) := by
  have moves : Relocates p (s.press p).toOffline s ((s.leaveQueue p).modPress p Press.toOffline) :=
    { core := ⟨rfl, fun _ _ => rfl, fun _ => Press.toOffline_duty, id⟩
      self := (s.leaveQueue p).modPress_press_self p _
      others := fun q => (s.leaveQueue p).modPress_press_ne p q _
      recipes := rfl
      heat := rfl
      place := fun _ place => ⟨nofun, by simp [Press.toOffline], by
        have := place.stroke
        rcases from_ with h | h <;> simp_all [Press.toOffline]⟩
      context := fun _ context => .of_none
        (context.context_eq_none (x := s.press p) (by rcases from_ with h | h <;> rw [h] <;> rfl)) rfl }
  exact moves.keepsQueue rfl rfl (by rcases from_ with h | h <;> simp [h]) nofun
    (fun _ q => (mem_filter_ne_iff q).trans (by simp [Press.toOffline])) (fun k => k.nodup.filter _) nofun

/-! ## Commit -/

/-- A press gives up its context and enters HEATING, its record at the tail of the history queue (R21). -/
def State.committed (s : State) (p : PressId) (c : CycleContext) : State :=
  (({ s with history := { s.history with records := s.history.records ++ [c.record] } } : State).modPress p
    Press.withoutContext).modPress p (Press.enter .heating)

theorem State.takeRecord_eq (s : State) (p : PressId) (c : CycleContext) :
    s.takeRecord p c = (s.committed p c).evaluateAdmission p := rfl

section Committed

variable (s : State) (p : PressId) (c : CycleContext)

theorem State.committed_press_self :
    (s.committed p c).press p = ((s.press p).withoutContext.drive.enter .heating).drive := by
  rw [State.committed, State.modPress_press_self, State.modPress_press_self]
  rfl

theorem State.committed_press_ne {q : PressId} (h : q ≠ p) : (s.committed p c).press q = s.press q := by
  rw [State.committed, State.modPress_press_ne _ _ _ _ h, State.modPress_press_ne _ _ _ _ h]
  rfl

/-- The serials after a commit: the one of the press has become that of its record (R128, R134). -/
theorem SerialLaw.committed {s : State} {p : PressId} {c : CycleContext} (h : SerialLaw s)
    (context : (s.press p).context = some c) : SerialLaw (s.committed p c) := by
  have serial : (s.press p).serial = some c.panel.serial := by simp [Press.serial, context]
  have none : ((s.committed p c).press p).serial = none := by
    rw [State.committed_press_self]
    rfl
  refine h.of_subperm (List.Perm.subperm ?_) rfl rfl
  refine (liveSerials_perm _ p).trans (.trans ?_ (liveSerials_perm s p).symm)
  rw [none, serial, otherSerials_congr fun q => s.committed_press_ne p c]
  simp [State.committed, CycleContext.record, PartRecord.serial]

theorem PressCore.commit {heat : HeatState} {recipe : Option Recipe} (x : Press) :
    PressCore heat recipe x (x.withoutContext.drive.enter .heating) where
  setup := rfl
  forced := (PressCore.enter (heat := heat) (recipe := recipe) x (st := .heating) nofun).forced
  duty := (PressCore.enter x (st := .heating) nofun).duty
  setpoint := id

/-- A commit is a change of place, but for the serial. -/
theorem Relocates.committed {s : State} {p : PressId} (c : CycleContext) (service : (s.press p).state ≠ .offline)
    (rest : (s.press p).state ≠ .ejecting) :
    Relocates p ((s.press p).withoutContext.drive.enter .heating) s (s.committed p c) where
  core := .commit _
  self := s.committed_press_self p c
  others _ := s.committed_press_ne p c
  recipes := rfl
  heat := rfl
  place _ place :=
    let moved := Press.InPlace.enter place service rest (st := .heating) nofun nofun
    ⟨moved.setup, moved.window, moved.stroke⟩
  context _ _ := .of_none rfl rfl

end Committed

/-- The commit of an offered context is taken with room in the history queue (R21, R128). -/
theorem Keeps.takeRecord {s : State} {p : PressId} {c : CycleContext} (context : (s.press p).context = some c)
    (offers : (s.press p).state = .chargeReady ∨ (s.press p).state = .unloadWait) (room : s.history.records.length < 64) :
    Keeps s (s.takeRecord p c) := by
  rw [State.takeRecord_eq]
  refine Keeps.trans ?_ (.evaluateAdmission _ p)
  have moves := Relocates.committed c (s := s) (p := p) (by rcases offers with h | h <;> simp [h])
    (by rcases offers with h | h <;> simp [h])
  have waits : (s.press p).state ≠ .chargeWait := by rcases offers with h | h <;> simp [h]
  have free : (s.press p).state ≠ .commitHeld := by rcases offers with h | h <;> simp [h]
  refine ⟨moves.keepsOpen (·.committed context) fun _ k => moves.queues k ?_ k.nodup ?_ k.heldNodup ?_ nofun,
    fun _ full waiting => absurd (full waiting) (Nat.ne_of_lt room)⟩
  · exact mem_iff_of_away moves (k.waits p) waits nofun
  · exact mem_iff_of_away moves (k.held p) free nofun
  · simpa [State.committed] using room

/-- A press is held with its context while the history queue is full (R128). -/
theorem Keeps.hold {s : State} {p : PressId} {c : CycleContext} (context : (s.press p).context = some c)
    (offers : (s.press p).state = .chargeReady ∨ (s.press p).state = .unloadWait)
    (stamped : c.panel.commitTime.isSome) (noRoom : 64 ≤ s.history.records.length) :
    Keeps s { s.modPress p (Press.enter .commitHeld) with
      history := { s.history with waitList := s.history.waitList ++ [p] } } := by
  have service : (s.press p).state ≠ .offline := by rcases offers with h | h <;> simp [h]
  have rest : (s.press p).state ≠ .ejecting := by rcases offers with h | h <;> simp [h]
  have waits : (s.press p).state ≠ .chargeWait := by rcases offers with h | h <;> simp [h]
  have free : (s.press p).state ≠ .commitHeld := by rcases offers with h | h <;> simp [h]
  have moves : Relocates p ((s.press p).enter .commitHeld) s { s.modPress p (Press.enter .commitHeld) with
      history := { s.history with waitList := s.history.waitList ++ [p] } } :=
    { core := .enter _ nofun
      self := s.modPress_press_self p _
      others := fun q => s.modPress_press_ne p q _
      recipes := rfl
      heat := rfl
      place := fun _ place => place.enter service rest nofun nofun
      context := fun _ ok => by
        refine ⟨by simp [context, PressState.holdsContext], fun d hd => ?_⟩
        obtain rfl : c = d := Option.some.inj (context.symm.trans hd)
        have fits := ok.2 c context
        rcases offers with h | h <;> rw [h] at fits
        · obtain ⟨close, opened, -⟩ := fits
          exact ⟨stamped, by simp [close, opened]⟩
        · obtain ⟨close, opened, -⟩ := fits
          exact ⟨stamped, by simp [close, opened]⟩ }
  refine ⟨moves.keepsOpen (moves.serials rfl rfl rfl rfl) fun _ k => moves.queues k ?_ k.nodup ?_ ?_ k.capacity nofun,
    fun k _ _ => le_antisymm k.queues.capacity noRoom⟩
  · exact mem_iff_of_away moves (k.waits p) waits nofun
  · exact fun q => (mem_append_self_iff q).trans (by simp)
  · exact nodup_append_self k.heldNodup (by simp [k.held, free])

/-- An offer of a stamped context (R128). -/
theorem Keeps.offerCommit {s : State} {p : PressId} (offers : (s.press p).state = .chargeReady ∨
    (s.press p).state = .unloadWait) (stamped : ∀ c, (s.press p).context = some c → c.panel.commitTime.isSome) :
    Keeps s (s.offerCommit p) := by
  rcases s.offerCommit_spec p with ⟨-, e⟩ | ⟨c, context, room, e⟩ | ⟨c, context, noRoom, e⟩ <;> rw [e]
  · exact .refl s
  · exact .takeRecord context offers room
  · exact .hold context offers (stamped c context) noRoom

end Sys2Proof.Machine

/-! SUPPORT. The load-cell samples and the release of held presses, and the laws they keep (R10, R22, R103, R113, R130,
R134). -/

namespace Sys2Proof.Machine

/-! ## A charge is given to the head press -/

/-- The serials once the next one stands in a new context: it is new, and the next serial has advanced or is exhausted
(R134). -/
theorem SerialLaw.takeSerial {s t : State} {p : PressId} (h : SerialLaw s) (fresh : s.history.exhausted = false)
    (serial : (t.press p).serial = some s.history.nextSerial) (others : ∀ q, q ≠ p → t.press q = s.press q)
    (history : t.history = s.history.takeSerial) : SerialLaw t := by
  obtain ⟨nodup, assigned, least, greatest, -⟩ := h
  have records : t.history.records = s.history.records := by rw [history]; unfold History.takeSerial; split <;> rfl
  have before := liveSerials_perm s p
  have after : (liveSerials t).Perm (s.history.nextSerial ::
      (s.history.records.map PartRecord.serial ++ otherSerials s p)) := by
    refine (liveSerials_perm t p).trans ?_
    rw [records, serial, otherSerials_congr others]
    exact List.perm_middle
  have rest : (s.history.records.map PartRecord.serial ++ otherSerials s p).Sublist
      (s.history.records.map PartRecord.serial ++ ((s.press p).serial.toList ++ otherSerials s p)) :=
    List.sublist_append_right _ _ |>.append_left _
  have below : ∀ n ∈ s.history.records.map PartRecord.serial ++ otherSerials s p, 1 ≤ n ∧ n < s.history.nextSerial := by
    intro n hn
    obtain ⟨pos, lt | ⟨-, exhausted⟩⟩ := assigned n (before.mem_iff.2 (rest.subset hn))
    · exact ⟨pos, lt⟩
    · simp [fresh] at exhausted
  refine ⟨after.nodup_iff.2 (List.nodup_cons.2 ⟨fun hn => (below _ hn).2.false, (before.nodup_iff.1 nodup).sublist rest⟩),
    fun n hn => ?_, ?_⟩
  · have bound : 1 ≤ n ∧ n ≤ s.history.nextSerial := by
      rcases List.mem_cons.1 (after.mem_iff.1 hn) with rfl | hn
      · exact ⟨least, le_rfl⟩
      · exact ⟨(below n hn).1, (below n hn).2.le⟩
    rw [history, History.takeSerial]
    split
    · exact ⟨bound.1, .inl (Nat.lt_succ_of_le bound.2)⟩
    · exact ⟨bound.1, bound.2.lt_or_eq.imp_right fun e => ⟨e, rfl⟩⟩
  · rw [history, History.takeSerial]
    by_cases last : s.history.nextSerial < Config.serialMax
    · rw [if_pos last]
      exact ⟨Nat.le_add_left 1 _, last, by simp [fresh]⟩
    · rw [if_neg last]
      exact ⟨least, greatest, fun _ => le_antisymm greatest (not_lt.1 last)⟩

/-- A press takes a charge: CHARGE_READY with a fresh context (R10). -/
def Press.takeCharge (c : CycleContext) (x : Press) : Press := { x.enter .chargeReady with context := some c }

theorem Keeps.giveCharge {s : State} {p : PressId} {rest : List PressId} (mass : Int) (stale : Bool)
    (head : s.scale.queue = p :: rest) (fresh : s.history.exhausted = false) :
    Keeps s (s.giveCharge p s.history.nextSerial mass stale) := by
  obtain ⟨slot, e⟩ : ∃ slot, s.giveCharge p s.history.nextSerial mass stale =
      (({ s with history := s.history.takeSerial } : State).leaveQueue p).modPress p
        (Press.takeCharge (openedContext p slot s.history.nextSerial mass s.clock stale)) := ⟨_, rfl⟩
  rw [e]
  generalize hc : openedContext p slot s.history.nextSerial mass s.clock stale = c
  have serial : c.panel.serial = s.history.nextSerial := by rw [← hc]; rfl
  have fits : c.fits .chargeReady := by rw [← hc]; exact ⟨rfl, rfl, rfl⟩
  set t := (({ s with history := s.history.takeSerial } : State).leaveQueue p).modPress p (Press.takeCharge c) with ht
  have waits (k : OpenLaw s) : (s.press p).state = .chargeWait := (k.queues.waits p).1 (by rw [head]; exact List.mem_cons_self)
  have core : PressCore s.heat.state (s.recipeOf p) (s.press p) ((s.press p).takeCharge c) :=
    have entered := PressCore.enter (heat := s.heat.state) (recipe := s.recipeOf p) (s.press p) (st := .chargeReady) nofun
    ⟨rfl, entered.forced, entered.duty, id⟩
  have moves : Relocates p ((s.press p).takeCharge c) s t :=
    { core := core
      self := State.modPress_press_self _ p _
      others := fun q => State.modPress_press_ne _ p q _
      recipes := rfl
      heat := rfl
      place := fun k place =>
        have entered := place.enter (st := .chargeReady) (by simp [waits k]) (by simp [waits k]) nofun nofun
        ⟨entered.setup, entered.window, entered.stroke⟩
      context := fun _ _ => ⟨by simp [Press.takeCharge, PressState.holdsContext],
        fun d hd => Option.some.inj hd ▸ fits⟩ }
  have records : t.history.records = s.history.records ∧ t.history.waitList = s.history.waitList := by
    simp only [ht, State.modPress_history, State.leaveQueue_history, History.takeSerial]
    split <;> exact ⟨rfl, rfl⟩
  refine ⟨moves.keepsOpen (fun k => k.takeSerial fresh (p := p) ?_ moves.others rfl) fun k _ =>
    moves.queues k.queues (fun q => (mem_filter_ne_iff q).trans (by simp [Press.takeCharge])) (k.queues.nodup.filter _)
      (fun q => ?_) ?_ ?_ nofun, fun _ full => by simpa only [FullLaw, records] using full⟩
  · rw [moves.self]
    simp [Press.serial, Press.takeCharge, serial]
  · rw [records.2]
    exact mem_iff_of_away (st' := .chargeReady) moves (k.queues.held p) (by simp [waits k]) nofun q
  · rw [records.2]; exact k.queues.heldNodup
  · rw [records.1]; exact k.queues.capacity

/-! ## A load-cell sample -/

/-- An accepted charge is claimed, and a serial is left for it (R113). -/
theorem judgeCharge_accept {s : State} {mass : Int} (h : judgeCharge s mass = .accept) :
    s.history.exhausted = false ∧ ∃ p rest r, s.scale.queue = p :: rest ∧ s.recipeOf p = some r ∧
      r.chargeMin ≤ mass ∧ mass ≤ r.chargeMax := by
  unfold judgeCharge at h
  split at h
  · cases h
  next p rest queue =>
    split at h
    · cases h
    next fresh =>
      split at h
      · cases h
      next r recipe =>
        split at h
        · cases h
        · split at h
          · cases h
          · exact ⟨by simpa using fresh, p, rest, r, queue, recipe, by omega, by omega⟩

/-- A stable charge is held with a verdict, and an accepted one given to the head press before (R113..R115). -/
theorem State.verdictEvent_spec (s : State) (mass : Int) :
    (∃ v, s.verdictEvent mass = { s with scale := s.scale.hold v }) ∨
    (∃ p rest v, judgeCharge s mass = .accept ∧ s.scale.queue = p :: rest ∧
      s.verdictEvent mass =
        { s.giveCharge p s.history.nextSerial mass s.scale.stale with
          scale := (s.giveCharge p s.history.nextSerial mass s.scale.stale).scale.hold v }) := by
  unfold State.verdictEvent
  dsimp only
  split
  next => exact .inl ⟨_, rfl⟩
  next accepted queue => exact .inr ⟨_, _, _, accepted, queue, rfl⟩
  next => exact .inl ⟨_, rfl⟩

/-- The rule of the scale state moves the scale, the queue as it was, or it is the verdict event (R107..R112). -/
theorem State.rawRule_spec (s : State) (gross net : Int) (stable : Bool) :
    (∃ c, c.queue = s.scale.queue ∧ s.rawRule gross net stable = { s with scale := c }) ∨
      s.rawRule gross net stable = s.verdictEvent net := by
  have queue (c : Scale) : (c.autoZero gross).queue = c.queue := by unfold Scale.autoZero; split <;> rfl
  have stays : ∃ c, c.queue = s.scale.queue ∧ s = { s with scale := c } := ⟨s.scale, rfl, rfl⟩
  unfold State.rawRule
  dsimp only
  split
  · split
    · exact .inl ⟨s.scale.toLoading true gross, rfl, rfl⟩
    · split
      · exact .inl ⟨s.scale.autoZero gross, queue _, rfl⟩
      · exact .inl stays
  · split
    · exact .inl ⟨s.scale.toLoading false gross, rfl, rfl⟩
    · exact .inl stays
  · split
    · exact .inl ⟨s.scale.chargeLifted gross, rfl, rfl⟩
    · split
      · exact .inr rfl
      · exact .inl stays
  · split
    · exact .inl ⟨s.scale.chargeRemoved gross, rfl, rfl⟩
    · exact .inl stays
  · exact .inl stays

/-- A change of the scale that keeps its queue. -/
theorem Keeps.setScale (s : State) {c : Scale} (queue : c.queue = s.scale.queue) : Keeps s { s with scale := c } :=
  .quiet rfl rfl rfl queue rfl

theorem Keeps.verdictEvent (s : State) (mass : Int) : Keeps s (s.verdictEvent mass) := by
  rcases s.verdictEvent_spec mass with ⟨v, e⟩ | ⟨p, rest, v, accepted, queue, e⟩ <;> rw [e]
  · exact .setScale s rfl
  · exact (Keeps.giveCharge mass s.scale.stale queue (judgeCharge_accept accepted).1).trans (.setScale _ rfl)

theorem Keeps.rawRule (s : State) (gross net : Int) (stable : Bool) : Keeps s (s.rawRule gross net stable) := by
  rcases s.rawRule_spec gross net stable with ⟨c, queue, e⟩ | e <;> rw [e]
  · exact .setScale s queue
  · exact .verdictEvent s net

/-- The gross mass of a RAW value now (R104). -/
def State.grossOf (s : State) (v : BitVec 24) : Int := grossMass s.cell.rounding s.scale.settings v.toInt

/-- The net mass of a RAW value now (R104). -/
def State.netOf (s : State) (v : BitVec 24) : Int := netMass s.scale.tare (s.grossOf v)

/-- The scale with a RAW value as its last sample and the run it makes (R103, R105). -/
def State.sampledScale (s : State) (v : BitVec 24) : Scale :=
  Scale.updateRun (s.grossOf v)
    { s.scale with lastSample := some (.raw v.toInt (s.grossOf v) (s.netOf v)), lastRaw := v.toInt }

/-- A RAW sample: the scale takes it, and the rule of the scale state acts (R103). -/
theorem State.sampleScale_raw (s : State) (v : BitVec 24) : s.sampleScale (.raw v) =
    (({ s with scale := s.sampledScale v } : State).rawRule (s.grossOf v) (s.netOf v)
      (becameStable s.scale (s.sampledScale v))).settle := rfl

theorem State.sampleScale_overload (s : State) : s.sampleScale .overload =
    ({ s with scale := Scale.clearRun { s.scale with lastSample := some .overload } } : State).settle := rfl

@[simp] theorem State.sampledScale_queue (s : State) (v : BitVec 24) : (s.sampledScale v).queue = s.scale.queue := by
  simp [State.sampledScale]

theorem Keeps.sampleScale (s : State) (sample : LoadSample) : Keeps s (s.sampleScale sample) := by
  cases sample with
  | overload =>
    rw [State.sampleScale_overload]
    refine Keeps.settled ?_
    exact .setScale s rfl
  | raw v =>
    rw [State.sampleScale_raw]
    exact ((Keeps.setScale s (s.sampledScale_queue v)).trans (.rawRule _ _ _ _)).settled

/-! ## Held presses released -/

/-- The head of the commit wait list is released, the clause of the full history queue apart (R22). -/
theorem KeepsOpen.releaseHead {s : State} {p : PressId} {rest : List PressId} (list : s.history.waitList = p :: rest)
    (room : s.history.records.length < 64) : KeepsOpen s (s.releaseHead p rest) := by
  have held (k : OpenLaw s) : (s.press p).state = .commitHeld := (k.queues.held p).1 (by rw [list]; exact List.mem_cons_self)
  unfold State.releaseHead
  dsimp only
  split
  next c context =>
    rw [State.takeRecord_eq]
    refine KeepsOpen.trans ?_ (Keeps.evaluateAdmission _ p).toKeepsOpen
    replace context : (s.press p).context = some c := context
    generalize ht : State.committed { s with history := { s.history with waitList := rest } } p c = t
    have waitList : t.history.waitList = rest := by rw [← ht]; rfl
    have moves : Relocates p ((s.press p).withoutContext.drive.enter .heating) s t := by
      subst ht
      exact
        { core := .commit _
          self := State.committed_press_self _ p c
          others := fun _ => State.committed_press_ne _ p c
          recipes := rfl
          heat := rfl
          place := fun k place =>
            have moved := Press.InPlace.enter place (st := .heating) (by simp [held k]) (by simp [held k]) nofun nofun
            ⟨moved.setup, moved.window, moved.stroke⟩
          context := fun _ _ => .of_none rfl rfl }
    refine moves.keepsOpen (fun k => ?_) fun k queues => moves.queues queues ?_ ?_ (fun q => ?_) ?_ ?_ nofun
    · subst ht
      exact SerialLaw.committed (s := { s with history := { s.history with waitList := rest } })
        k context
    · rw [← ht]
      exact mem_iff_of_away moves (queues.waits p) (by simp [held k]) nofun
    · rw [← ht]; exact queues.nodup
    · have nodup := queues.heldNodup
      rw [list, List.nodup_cons] at nodup
      rw [waitList, list]
      split
      next e => subst e; simpa using nodup.1
      next e => simp [e]
    · have nodup := queues.heldNodup
      rw [list, List.nodup_cons] at nodup
      rw [waitList]; exact nodup.2
    · rw [← ht]
      simpa [State.committed] using room
  next none =>
    have noLaw (k : OpenLaw s) : False := by
      have present := (k.contexts p).1.2 (by rw [held k]; rfl)
      rw [show (s.press p).context = Option.none from none] at present
      cases present
    exact ⟨fun k => k, fun k => k, fun k => k, fun k => (noLaw k).elim, fun k => (noLaw k).elim⟩

/-- An evaluation of admission leaves the part history as it was. -/
@[simp] theorem State.evaluateAdmission_history (s : State) (p : PressId) :
    (s.evaluateAdmission p).history = s.history := by
  rcases s.evaluateAdmission_spec p with ⟨-, -, e⟩ | ⟨-, e⟩ <;> rw [e]
  rfl

theorem State.releaseHead_waitList (s : State) (p : PressId) (rest : List PressId) :
    (s.releaseHead p rest).history.waitList = rest := by
  unfold State.releaseHead
  dsimp only
  split
  · rw [State.takeRecord_eq, State.evaluateAdmission_history]
    rfl
  · rfl

theorem KeepsOpen.releaseHeld {s : State} {list : List PressId} (waiting : s.history.waitList = list) :
    KeepsOpen s (s.releaseHeld list) := by
  induction list generalizing s with
  | nil => exact .refl s
  | cons p rest ih =>
    unfold State.releaseHeld
    split
    next room => exact (KeepsOpen.releaseHead waiting room).trans (ih (s.releaseHead_waitList p rest))
    next => exact .refl s

/-- After the release no press waits, or no room is left (R130). -/
theorem State.releaseHeld_full {s : State} {list : List PressId} (waiting : s.history.waitList = list) :
    (s.releaseHeld list).history.waitList = [] ∨ 64 ≤ (s.releaseHeld list).history.records.length := by
  induction list generalizing s with
  | nil => exact .inl waiting
  | cons p rest ih =>
    unfold State.releaseHeld
    split
    next => exact ih (s.releaseHead_waitList p rest)
    next noRoom => exact .inr (not_lt.1 noRoom)

/-- Records that are removed leave the rest as it was (R138). -/
theorem KeepsOpen.dropRecords (s : State) (n : Nat) :
    KeepsOpen s { s with history := { s.history with records := s.history.records.drop n } } where
  pins k := k
  serials k := k.of_subperm
    (((List.drop_sublist n _).map PartRecord.serial).append_right (openSerials s)).subperm rfl rfl
  setpoints k := k
  places := fun ⟨setups, contexts, queues⟩ => ⟨setups, contexts, queues.waits, queues.nodup, queues.held, queues.heldNodup,
    (List.drop_sublist n _).length_le.trans queues.capacity, queues.run⟩
  platens _ k := k

theorem Keeps.acknowledge (s : State) (j : Nat) : Keeps s (s.acknowledge j) := by
  have kept : KeepsOpen s (s.acknowledge j) := (KeepsOpen.dropRecords s (j + 1)).trans (.releaseHeld rfl)
  refine ⟨kept, fun k _ waiting => ?_⟩
  rcases State.releaseHeld_full (s := { s with history := { s.history with records := s.history.records.drop (j + 1) } })
    rfl with none | full
  · exact absurd none waiting
  · exact le_antisymm (kept.places k).queues.capacity full

end Sys2Proof.Machine

/-! SUPPORT. A change of heat state written as one update of the presses and the scale queue, and the laws it keeps (R66). -/

namespace Sys2Proof.Machine

theorem allPresses_nodup : allPresses.Nodup := List.nodup_finRange 4

@[simp] theorem mem_allPresses (p : PressId) : p ∈ allPresses := List.mem_finRange p

/-! ## The presses and the scale queue replaced -/

/-- The part with its presses and its scale queue replaced. -/
def State.placed (s : State) (presses : PressId → Press) (queue : List PressId) : State :=
  { s with presses := Vector.ofFn presses, scale := { s.scale with queue := queue } }

section Placed

variable (s : State) (P : PressId → Press) (queue : List PressId) (p : PressId)

@[simp] theorem State.placed_press : (s.placed P queue).press p = P p := by
  simp [State.placed, State.press]

@[simp] theorem State.placed_queue : (s.placed P queue).scale.queue = queue := rfl

@[simp] theorem State.placed_heat : (s.placed P queue).heat = s.heat := rfl

@[simp] theorem State.placed_recipes : (s.placed P queue).recipes = s.recipes := rfl

@[simp] theorem State.placed_history : (s.placed P queue).history = s.history := rfl

theorem State.eq_placed : s = s.placed s.press s.scale.queue := by
  rw [State.placed, ← s.presses_eq]

theorem State.placed_modPress (f : Press → Press) : (s.placed P queue).modPress p f =
    s.placed (fun q => if q = p then (f (P p)).drive else P q) queue := by
  rw [State.modPress_of_driven _ (x := (f (P p)).drive) (by rw [State.placed_press])]
  simp only [State.placed_press]
  rfl

theorem State.placed_modAll (f : PressId → Press → Press) : (s.placed P queue).modAll f =
    s.placed (fun q => (f q (P q)).drive) queue := by
  simp [State.modAll, State.placed]

theorem State.placed_leaveQueue : (s.placed P queue).leaveQueue p = s.placed P (queue.filter (· ≠ p)) := rfl

end Placed

/-! ## Admission and withdrawal of several presses -/

/-- The admission test, read at one press (R78). -/
def Press.admissible (heat : HeatState) (x : Press) : Bool :=
  heat == .run && (match x.setup with | some u => u.gating == .monitor || x.ready | none => false)

theorem State.admits_eq (s : State) (p : PressId) : s.admits p = (s.press p).admissible s.heat.state := rfl

/-- A press joins the queue: in HEATING with the test passed (R78). -/
def Press.joins (heat : HeatState) (x : Press) : Bool := x.state == .heating && x.admissible heat

section Several

variable (s : State) (P : PressId → Press) (queue : List PressId)

theorem State.placed_evaluateAdmission (p : PressId) : (s.placed P queue).evaluateAdmission p =
    s.placed (fun q => if q = p ∧ (P q).joins s.heat.state = true then ((P q).enter .chargeWait).drive else P q)
      (if (P p).joins s.heat.state = true then queue ++ [p] else queue) := by
  have joins : ((s.placed P queue).press p).state = .heating ∧ (s.placed P queue).admits p = true ↔
      (P p).joins s.heat.state = true := by
    rw [State.admits_eq, State.placed_press, State.placed_heat, Press.joins, Bool.and_eq_true, beq_iff_eq]
  unfold State.evaluateAdmission
  by_cases h : (P p).joins s.heat.state = true
  · rw [if_pos (joins.2 h), if_pos h, State.placed_modPress]
    refine congrArg (fun P => s.placed P (queue ++ [p])) (funext fun q => ?_)
    by_cases e : q = p
    · subst e; simp [h]
    · simp [e]
  · rw [if_neg (mt joins.1 h), if_neg h]
    refine congrArg (fun P => s.placed P queue) (funext fun q => ?_)
    by_cases e : q = p
    · subst e; simp [h]
    · simp [e]

/-- Admission evaluated for several presses in their order: those that join stand at the tail of the queue in it (R66). -/
theorem State.placed_foldl_evaluateAdmission (l : List PressId) (nodup : l.Nodup) :
    l.foldl State.evaluateAdmission (s.placed P queue) =
      s.placed (fun q => if q ∈ l ∧ (P q).joins s.heat.state = true then ((P q).enter .chargeWait).drive else P q)
        (queue ++ l.filter fun q => (P q).joins s.heat.state) := by
  induction l generalizing P queue with
  | nil => simp
  | cons p rest ih =>
    obtain ⟨fresh, nodup⟩ := List.nodup_cons.1 nodup
    rw [List.foldl_cons, State.placed_evaluateAdmission, ih _ _ nodup]
    have others : ∀ q ∈ rest, q ≠ p := fun q hq => ne_of_mem_of_not_mem hq fresh
    congr 1
    · funext q
      by_cases e : q = p
      · subst e; simp [fresh]
      · simp [e]
    · have filter : (rest.filter fun q => Press.joins s.heat.state
          (if q = p ∧ (P q).joins s.heat.state = true then ((P q).enter .chargeWait).drive else P q)) =
          rest.filter fun q => (P q).joins s.heat.state :=
        List.filter_congr fun q hq => by simp [others q hq]
      rw [filter, List.filter_cons]
      split <;> simp

/-- A press in CHARGE_WAIT without the heat state RUN goes back to HEATING when it is withdrawn (R8, R66). -/
theorem State.placed_withdraw (cold : s.heat.state ≠ .run) (p : PressId) : (s.placed P queue).withdraw p =
    s.placed (fun q => if q = p then ((P q).enter .heating).drive else P q) (queue.filter (· ≠ p)) := by
  have notAdmitted : ((s.placed P (queue.filter (· ≠ p))).modPress p (Press.enter .heating)).evaluateAdmission p =
      (s.placed P (queue.filter (· ≠ p))).modPress p (Press.enter .heating) := by
    refine if_neg fun h => cold ?_
    exact ((State.admits_iff _ p).1 h.2).1
  rw [State.withdraw, State.enterHeating, State.placed_leaveQueue, notAdmitted, State.placed_modPress]
  refine congrArg (fun P => s.placed P (queue.filter (· ≠ p))) (funext fun q => ?_)
  by_cases e : q = p
  · subst e; simp
  · simp [e]

theorem State.placed_foldl_withdraw (cold : s.heat.state ≠ .run) (l : List PressId) (nodup : l.Nodup) :
    l.foldl (fun s p => if (s.press p).state = .chargeWait then s.withdraw p else s) (s.placed P queue) =
      s.placed (fun q => if q ∈ l ∧ (P q).state = .chargeWait then ((P q).enter .heating).drive else P q)
        (queue.filter fun q => ¬(q ∈ l ∧ (P q).state = .chargeWait)) := by
  induction l generalizing P queue with
  | nil => simp
  | cons p rest ih =>
    obtain ⟨fresh, nodup⟩ := List.nodup_cons.1 nodup
    rw [List.foldl_cons, State.placed_press]
    split
    next waits =>
      rw [State.placed_withdraw s P queue cold, ih _ _ nodup]
      congr 1
      · funext q
        by_cases e : q = p
        · subst e; simp [fresh, waits]
        · simp [e]
      · rw [List.filter_filter]
        refine List.filter_congr fun q _ => ?_
        by_cases e : q = p
        · subst e; simp [waits]
        · simp [e]
    next stays =>
      rw [ih _ _ nodup]
      congr 1
      · funext q
        by_cases e : q = p
        · subst e; simp [fresh, stays]
        · simp [e]
      · refine List.filter_congr fun q _ => ?_
        by_cases e : q = p
        · subst e; simp [fresh, stays]
        · simp [e]

end Several

/-! ## A change of heat state as one update -/

/-- A press as a change of heat state leaves it before any admission: setpoints recomputed, readiness reset (R66). -/
def Press.reheated (recipe : Option Recipe) (heat : HeatState) (x : Press) : Press :=
  (x.withSetpoints recipe heat).resetReadiness

/-- The part in another heat state. -/
def State.inHeat (s : State) (heat : HeatState) : State := { s with heat := { s.heat with state := heat } }

/-- A press as a fall from RUN, or a move between OFF and STANDBY, leaves it: withdrawn from CHARGE_WAIT after RUN, held off
in OFF (R47, R66). -/
def Press.cooled (old new : HeatState) (recipe : Option Recipe) (x : Press) : Press :=
  let y := (x.reheated recipe new).drive
  let y := if old = .run ∧ x.state = .chargeWait then (y.enter .heating).drive else y
  if new = .off then y.holdOffAll.drive else y

section ChangeHeat

variable (s : State)

theorem State.reheated_eq (new : HeatState) :
    ((s.inHeat new).modAll fun p x => (x.withSetpoints ((s.inHeat new).recipeOf p) new).resetReadiness) =
      (s.inHeat new).placed (fun p => ((s.press p).reheated (s.recipeOf p) new).drive) s.scale.queue :=
  (congrArg (State.modAll · _) (s.inHeat new).eq_placed).trans (State.placed_modAll ..)

/-- Heat is granted: setpoints and readiness as the change leaves them, and the presses that then pass admission join the
queue in ascending order (R66). -/
theorem State.changeHeat_run (h : s.heat.state ≠ .run) : s.changeHeat .run =
    allPresses.foldl State.evaluateAdmission
      ((s.inHeat .run).placed (fun p => ((s.press p).reheated (s.recipeOf p) .run).drive) s.scale.queue) := by
  rw [← State.reheated_eq]
  unfold State.changeHeat
  simp only [h, if_false, if_true, reduceCtorEq]
  rfl

/-- Heat falls (R66). -/
theorem State.changeHeat_cold {new : HeatState} (h : s.heat.state ≠ new) (cold : new ≠ .run) : s.changeHeat new =
    (s.inHeat new).placed (fun p => (s.press p).cooled s.heat.state new (s.recipeOf p))
      (s.scale.queue.filter fun p => ¬(s.heat.state = .run ∧ (s.press p).state = .chargeWait)) := by
  have withdrawn : (if s.heat.state = .run then
      allPresses.foldl (fun s p => if (s.press p).state = .chargeWait then s.withdraw p else s)
        ((s.inHeat new).placed (fun p => ((s.press p).reheated (s.recipeOf p) new).drive) s.scale.queue)
      else (s.inHeat new).placed (fun p => ((s.press p).reheated (s.recipeOf p) new).drive) s.scale.queue) =
    (s.inHeat new).placed
      (fun p =>
        if s.heat.state = .run ∧ (s.press p).state = .chargeWait then
          (((s.press p).reheated (s.recipeOf p) new).drive.enter .heating).drive
        else ((s.press p).reheated (s.recipeOf p) new).drive)
      (s.scale.queue.filter fun p => ¬(s.heat.state = .run ∧ (s.press p).state = .chargeWait)) := by
    split
    next run =>
      rw [State.placed_foldl_withdraw (s.inHeat new) _ _ cold _ allPresses_nodup]
      congr 1
      · funext p
        simp [run, Press.reheated]
      · simp [run, Press.reheated]
    next notRun => simp [notRun]
  unfold State.changeHeat
  dsimp only
  rw [if_neg h]
  rw [← State.reheated_eq] at withdrawn
  refine (congrArg (fun t => if new = .off then State.modAll t fun _ => Press.holdOffAll else t)
    ((if_neg cold).trans withdrawn)).trans ?_
  split
  next off => rw [State.placed_modAll]; simp only [Press.cooled, off, if_true]
  next notOff => simp only [Press.cooled, notOff, if_false]

end ChangeHeat

/-! ## The laws a change of heat state keeps -/

section Cooled

variable (old new : HeatState) (recipe : Option Recipe) (x : Press)

/-- The fall as the updates it makes, outputs last. -/
theorem Press.cooled_eq : x.cooled old new recipe =
    Press.drive { x.reheated recipe new with
      state := if old = .run ∧ x.state = .chargeWait then .heating else x.state
      zones := if new = .off then x.holdOffAll.zones else x.zones } := by
  unfold Press.cooled
  dsimp only
  split_ifs <;> simp [Press.drive, Press.ejectorLevel, Press.enter, Press.reheated, Press.withSetpoints,
    Press.resetReadiness, Press.holdOffAll, Press.modZones, PressState.allowsForce]

end Cooled

/-- A press moves from `x` to `y` while the heat state changes. -/
structure HeatMove (old new : HeatState) (recipe : Option Recipe) (x y : Press) : Prop where
  setup : y.setup = x.setup
  held : y.state = .commitHeld ↔ x.state = .commitHeld
  serial : y.serial = x.serial
  forced : x.ForcedOk → y.ForcedOk
  place : x.InPlace → y.InPlace
  context : x.ContextOk → y.ContextOk
  duty : x.DutyOk old recipe → y.DutyOk new recipe
  setpoint : y.SetpointOk new recipe

/-- An event changes the heat state to `new`, and every press with it. -/
structure HeatEvent (new : HeatState) (s t : State) : Prop where
  press : ∀ p, ∃ y, HeatMove s.heat.state new (s.recipeOf p) (s.press p) y ∧ t.press p = y.drive
  recipes : t.recipes = s.recipes
  heat : t.heat.state = new
  history : t.history = s.history
  waits : OpenQueueLaw s → ∀ p, p ∈ t.scale.queue ↔ (t.press p).state = .chargeWait
  nodup : OpenQueueLaw s → t.scale.queue.Nodup
  run : OpenQueueLaw s → ∀ p, (t.press p).state = .chargeWait → new = .run

section HeatEvent

variable {new : HeatState} {s t : State} (h : HeatEvent new s t)

include h

theorem HeatEvent.recipeOf (p : PressId) : t.recipeOf p = s.recipeOf p := by
  obtain ⟨y, move, e⟩ := h.press p
  exact State.recipeOf_congr (by rw [e]; exact move.setup) h.recipes

theorem HeatEvent.pins (k : PinLaw s) : PinLaw t := by
  rw [pinLaw_iff] at k ⊢
  intro p
  obtain ⟨y, move, e⟩ := h.press p
  rw [e]
  exact ⟨y.drive_drive, move.forced (k p).2⟩

theorem HeatEvent.serials (k : SerialLaw s) : SerialLaw t := by
  refine k.of_same (fun p => ?_) (by rw [h.history]) (by rw [h.history]) (by rw [h.history])
  obtain ⟨y, move, e⟩ := h.press p
  rw [e]
  exact move.serial

theorem HeatEvent.setpoints : SetpointLaw t := by
  rw [setpointLaw_iff]
  intro p
  obtain ⟨y, move, e⟩ := h.press p
  rw [h.heat, h.recipeOf, e]
  exact move.setpoint

theorem HeatEvent.setups (k : SetupLaw s) : SetupLaw t := by
  rw [setupLaw_iff] at k ⊢
  intro p
  obtain ⟨y, move, e⟩ := h.press p
  obtain ⟨place, named⟩ := k p
  rw [e, h.recipes, Press.drive_setup, move.setup]
  exact ⟨(PressMove.drive (heat := new) (recipe := none) y).place (move.place place), named⟩

theorem HeatEvent.platens (k : SetupLaw s) (l : PlatenLaw s) : PlatenLaw t := by
  obtain ⟨recipes, duties⟩ := l
  have named (p : PressId) := h.setups k p
  refine ⟨⟨by rw [h.recipes]; exact recipes.1, fun p => ⟨(named p).1, fun u hu => ((named p).2.1 u hu).1⟩⟩,
    dutyLaw_iff.2 fun p => ?_⟩
  obtain ⟨y, move, e⟩ := h.press p
  rw [h.heat, h.recipeOf, e]
  exact move.duty (dutyLaw_iff.1 duties p)

theorem HeatEvent.places (k : OpenLaw s) : OpenLaw t := by
  obtain ⟨setups, contexts, queues⟩ := k
  refine ⟨h.setups setups, fun p => ?_, h.waits queues, h.nodup queues, fun p => ?_, by rw [h.history]; exact queues.heldNodup,
    by rw [h.history]; exact queues.capacity, fun p waits => h.heat.trans (h.run queues p waits)⟩
  · obtain ⟨y, move, e⟩ := h.press p
    rw [e]
    exact move.context (contexts p)
  · obtain ⟨y, move, e⟩ := h.press p
    rw [h.history, e, Press.drive_state, move.held]
    exact queues.held p

theorem HeatEvent.keeps : Keeps s t :=
  ⟨⟨h.pins, h.serials, fun _ => h.setpoints, h.places, fun k => h.platens k.setups⟩,
    fun _ full => by simpa only [FullLaw, h.history] using full⟩

end HeatEvent

section Moves

variable {old new : HeatState} {recipe : Option Recipe} {x : Press}

theorem Press.reheated_setpoint (x : Press) : (x.reheated recipe new).SetpointOk new recipe := fun z =>
  x.withSetpoints_setpoint recipe new z

/-- A change to a heat state that is not OFF begins no hold-off cause (R47). -/
theorem Press.DutyOk.reheated (h : x.DutyOk old recipe) (warm : new ≠ .off) : (x.reheated recipe new).DutyOk new recipe := by
  intro z
  refine ⟨fun held => (h z).1 ?_, (h z).2⟩
  rw [Press.heldOff_iff] at held ⊢
  exact .inr (held.resolve_left warm)

theorem HeatMove.reheated (warm : new ≠ .off) (x : Press) : HeatMove old new recipe x (x.reheated recipe new) where
  setup := rfl
  held := .rfl
  serial := rfl
  forced := id
  place k := ⟨k.setup, k.window, k.stroke⟩
  context := id
  duty k := k.reheated warm
  setpoint := x.reheated_setpoint

/-- A press goes back from CHARGE_WAIT to HEATING in place. -/
theorem HeatMove.cooled (new : HeatState) (x : Press) : ∃ y, HeatMove old new recipe x y ∧
    x.cooled old new recipe = y.drive := by
  refine ⟨_, ?_, x.cooled_eq old new recipe⟩
  refine ⟨rfl, ?_, rfl, ?_, fun k => ?_, fun k => ?_, fun k z => ?_, x.reheated_setpoint⟩
  · dsimp only
    split
    next h => simp [h.2]
    next => rfl
  · intro k forced
    dsimp only
    split
    next => rfl
    next => exact k forced
  · refine ⟨?_, ?_, ?_⟩ <;> dsimp only <;> split
    next h => exact fun _ => k.setup (by simp [h.2])
    next => exact k.setup
    next h => exact k.window.trans (by simp [h.2])
    next => exact k.window
    next h => exact k.stroke.trans (by simp [h.2])
    next => exact k.stroke
  · dsimp only [Press.ContextOk]
    split
    next h =>
      have none := k.context_eq_none (by rw [h.2]; rfl)
      exact Press.ContextOk.of_none (x := (x.reheated recipe new).enter .heating) none rfl
    next => exact k
  · obtain ⟨cold, bound, sane⟩ := k z
    by_cases off : new = .off
    · simp only [if_pos off]
      have zone : x.holdOffAll.zones[z] = x.zones[z].holdOff := Press.modZones_zone ..
      rw [zone]
      exact ⟨fun _ => Zone.holdOff_cold _, fun r hr => (bound r hr).holdOff, sane.holdOff⟩
    · simp only [if_neg off]
      refine ⟨fun held => cold ?_, bound, sane⟩
      rw [Press.heldOff_iff] at held ⊢
      rcases held with now | offline | rest
      · exact absurd now off
      · refine .inr (.inl ?_)
        dsimp only at offline
        split at offline
        · cases offline
        · exact offline
      · exact .inr (.inr rest)

end Moves

/-- A change of heat state (R66). -/
theorem Keeps.changeHeat (s : State) (new : HeatState) : Keeps s (s.changeHeat new) := by
  by_cases same : s.heat.state = new
  · rw [← same, State.changeHeat_same]
    exact .refl s
  by_cases run : new = .run
  · subst run
    rw [State.changeHeat_run s same]
    have reheated : HeatEvent .run s
        ((s.inHeat .run).placed (fun p => ((s.press p).reheated (s.recipeOf p) .run).drive) s.scale.queue) :=
      { press := fun p => ⟨_, HeatMove.reheated (new := .run) nofun _, State.placed_press ..⟩
        recipes := rfl
        heat := rfl
        history := rfl
        waits := fun k p => by rw [State.placed_press]; exact k.waits p
        nodup := fun k => k.nodup
        run := fun _ _ _ => rfl }
    refine reheated.keeps.trans ?_
    generalize State.placed _ _ _ = t
    induction allPresses generalizing t with
    | nil => exact .refl t
    | cons p rest ih => exact (Keeps.evaluateAdmission t p).trans (ih _)
  · rw [State.changeHeat_cold s same run]
    have noWait (k : OpenQueueLaw s) (p : PressId) :
        ((s.press p).cooled s.heat.state new (s.recipeOf p)).state ≠ .chargeWait := by
      rw [Press.cooled_eq, Press.drive_state]
      dsimp only
      split
      next => nofun
      next h => exact fun waits => h ⟨k.run p waits, waits⟩
    have cooled : HeatEvent new s ((s.inHeat new).placed (fun p => (s.press p).cooled s.heat.state new (s.recipeOf p))
        (s.scale.queue.filter fun p => ¬(s.heat.state = .run ∧ (s.press p).state = .chargeWait))) :=
      { press := fun p => by rw [State.placed_press]; exact HeatMove.cooled new _
        recipes := rfl
        heat := rfl
        history := rfl
        waits := fun k p => by
          rw [State.placed_press]
          refine iff_of_false (fun hp => ?_) (noWait k p)
          simp only [State.placed_queue, List.mem_filter, decide_eq_true_eq] at hp
          have waits := (k.waits p).1 hp.1
          exact hp.2 ⟨k.run p waits, waits⟩
        nodup := fun k => k.nodup.filter _
        run := fun k p waits => by
          rw [State.placed_press] at waits
          exact absurd waits (noWait k p) }
    exact cooled.keeps

end Sys2Proof.Machine

/-! SUPPORT. What the recipe requests, PRESS_SETUP, RESTART and POWER_ON keep of the laws (R32, R35, R39, R181, R182). -/

namespace Sys2Proof.Machine

/-! ## A press adopts a setup or new contents of its slot -/

/-- A press moves from `x` to `y` while the recipe it reads changes from `old` to `new`, its state, context, stroke, window
and forced level as they were. -/
structure Adopts (heat : HeatState) (old new : Option Recipe) (x y : Press) : Prop where
  state : y.state = x.state
  context : y.context = x.context
  stroke : y.stroke = x.stroke
  window : y.windowStart = x.windowStart
  forced : y.forced = x.forced
  setup : x.state ≠ .offline → y.setup = x.setup
  duty : x.DutyOk heat old → y.DutyOk heat new
  setpoint : x.SetpointOk heat old → y.SetpointOk heat new

/-- An event changes the recipe table or a setup. -/
structure SetupEvent (s t : State) : Prop where
  press : ∀ p, ∃ y, Adopts s.heat.state (s.recipeOf p) (t.recipeOf p) (s.press p) y ∧
    (t.press p = s.press p ∧ y = s.press p ∨ t.press p = y.drive)
  heat : t.heat.state = s.heat.state
  queue : t.scale.queue = s.scale.queue
  history : t.history = s.history
  named : SetupLaw s → ∀ p u, (t.press p).setup = some u → t.recipes[u.slot].isSome ∧ u.zones ≠ 0
  valid : (∀ n : SlotId, ∀ r, s.recipes[n] = some r → r.inRanges) → ∀ n : SlotId, ∀ r, t.recipes[n] = some r → r.inRanges

section Adopts

variable {heat : HeatState} {old new : Option Recipe} {x y : Press}

theorem Adopts.refl (x : Press) : Adopts heat old old x x := ⟨rfl, rfl, rfl, rfl, rfl, fun _ => rfl, id, id⟩

theorem Adopts.drive (h : Adopts heat old new x y) : Adopts heat old new x y.drive :=
  ⟨h.state, h.context, h.stroke, h.window, h.forced, h.setup, h.duty, h.setpoint⟩

end Adopts

section SetupEvent

variable {s t : State} (h : SetupEvent s t)

include h

theorem SetupEvent.move (p : PressId) :
    Adopts s.heat.state (s.recipeOf p) (t.recipeOf p) (s.press p) (t.press p) := by
  obtain ⟨y, move, ⟨e, rfl⟩ | e⟩ := h.press p
  · rw [e]; exact move
  · rw [e]; exact move.drive

theorem SetupEvent.pins (k : PinLaw s) : PinLaw t := by
  rw [pinLaw_iff] at k ⊢
  intro p
  refine ⟨?_, by rw [Press.ForcedOk, (h.move p).forced, (h.move p).state]; exact (k p).2⟩
  obtain ⟨y, -, ⟨e, -⟩ | e⟩ := h.press p
  · rw [e]; exact (k p).1
  · rw [e, Press.drive_drive]

theorem SetupEvent.serials (k : SerialLaw s) : SerialLaw t :=
  k.of_same (fun p => by rw [Press.serial, (h.move p).context]; rfl) (by rw [h.history]) (by rw [h.history])
    (by rw [h.history])

theorem SetupEvent.setpoints (k : SetpointLaw s) : SetpointLaw t := by
  rw [setpointLaw_iff] at k ⊢
  intro p
  rw [h.heat]
  exact (h.move p).setpoint (k p)

theorem SetupEvent.setups (k : SetupLaw s) : SetupLaw t := by
  rw [setupLaw_iff] at k ⊢
  intro p
  obtain ⟨⟨present, window, stroke⟩, -⟩ := k p
  refine ⟨⟨fun service => ?_, ?_, ?_⟩, h.named (setupLaw_iff.2 k) p⟩
  · rw [(h.move p).state] at service
    rw [(h.move p).setup service]
    exact present service
  · rw [(h.move p).window, (h.move p).state]; exact window
  · rw [(h.move p).stroke, (h.move p).state]; exact stroke

theorem SetupEvent.places (k : OpenLaw s) : OpenLaw t := by
  obtain ⟨setups, contexts, queues⟩ := k
  refine ⟨h.setups setups, fun p => ?_, ?_⟩
  · rw [(h.move p).context, (h.move p).state]
    exact contexts p
  · exact ⟨fun p => by rw [h.queue, (h.move p).state]; exact queues.waits p, by rw [h.queue]; exact queues.nodup,
      fun p => by rw [h.history, (h.move p).state]; exact queues.held p, by rw [h.history]; exact queues.heldNodup,
      by rw [h.history]; exact queues.capacity, fun p => by rw [h.heat, (h.move p).state]; exact queues.run p⟩

theorem SetupEvent.platens (k : SetupLaw s) (l : PlatenLaw s) : PlatenLaw t := by
  obtain ⟨⟨valid, -⟩, duties⟩ := l
  have named (p : PressId) := h.setups k p
  refine ⟨⟨h.valid valid, fun p => ⟨(named p).1, fun u hu => ((named p).2.1 u hu).1⟩⟩, dutyLaw_iff.2 fun p => ?_⟩
  rw [h.heat]
  exact (h.move p).duty (dutyLaw_iff.1 duties p)

theorem SetupEvent.keeps : Keeps s t :=
  ⟨⟨h.pins, h.serials, h.setpoints, h.places, fun k => h.platens k.setups⟩,
    fun _ full => by simpa only [FullLaw, h.history] using full⟩

end SetupEvent

/-! ## The moves of an OFFLINE press -/

section Offline

variable {heat : HeatState} {old : Option Recipe} {x : Press} {r : Recipe}

/-- A manual duty lowered to a bound (R54). -/
theorem Press.reboundManual_zone (bound : Nat) (x : Press) (z : ZoneId) : (x.reboundManual bound).zones[z] =
    if x.zones[z].mode = .manual then { x.zones[z] with manual := min x.zones[z].manual bound } else x.zones[z] :=
  Press.modZones_zone ..

/-- The zones of an OFFLINE press are cold, so that they keep the law under every recipe once their manual duties are
re-bounded (R39, R47, R54). -/
theorem Press.DutyOk.rebound (h : x.DutyOk heat old) (offline : x.state = .offline) {y : Press}
    (zones : y.zones = (x.reboundManual r.maxDuty).zones) : y.DutyOk heat (some r) := by
  intro z
  obtain ⟨cold, -, low, hot⟩ := h z
  have cold := cold ((x.heldOff_iff z heat).2 (.inr (.inl offline)))
  rw [zones, Press.reboundManual_zone]
  split
  next manual =>
    refine ⟨fun _ => cold, fun q hq => ?_, (min_le_left _ _).trans low, hot⟩
    cases hq
    exact Zone.Cold.within (q := { x.zones[z] with manual := min x.zones[z].manual r.maxDuty }) cold _
      fun _ => min_le_right _ _
  next notManual =>
    refine ⟨fun _ => cold, fun q hq => ?_, low, hot⟩
    cases hq
    exact cold.within r.maxDuty fun manual => absurd manual notManual

/-- A press as it leaves a change of the recipe it reads: readiness reset, manual duties re-bounded, setpoints recomputed
(R32, R39). -/
def Press.adopted (r : Recipe) (heat : HeatState) (x : Press) : Press :=
  (x.resetReadiness.reboundManual r.maxDuty).withSetpoints (some r) heat

/-- A press as it leaves the loss of its setup (R35). -/
def Press.cleared (heat : HeatState) (x : Press) : Press := { x.resetReadiness with setup := none }.withSetpoints none heat

/-- An OFFLINE press takes contents of a slot (R32, R39). -/
theorem Adopts.recipe (offline : x.state = .offline) (setup : Option Setup) :
    Adopts heat old (some r) x (Press.adopted r heat { x with setup := setup }) where
  state := rfl
  context := rfl
  stroke := rfl
  window := rfl
  forced := rfl
  setup service := absurd offline service
  duty h := h.rebound offline rfl
  setpoint _ z := Press.withSetpoints_setpoint _ _ _ z

/-- An OFFLINE press loses its setup (R35). -/
theorem Adopts.noSetup (offline : x.state = .offline) : Adopts heat old none x
    (x.cleared heat) where
  state := rfl
  context := rfl
  stroke := rfl
  window := rfl
  forced := rfl
  setup service := absurd offline service
  duty h z := by
    obtain ⟨cold, -, sane⟩ := h z
    exact ⟨fun _ => cold ((x.heldOff_iff z heat).2 (.inr (.inl offline))), nofun, sane⟩
  setpoint _ z := Press.withSetpoints_setpoint _ _ _ z

end Offline

/-! ## The recipe requests and PRESS_SETUP -/

theorem Press.names_iff (x : Press) (n : SlotId) : x.names n = true ↔ ∃ u, x.setup = some u ∧ u.slot = n := by
  unfold Press.names
  cases x.setup <;> simp

theorem State.slotInUse_iff (s : State) (n : SlotId) : s.slotInUse n = true ↔ InUse s n := by
  simp only [State.slotInUse, List.any_eq_true, mem_allPresses, true_and, Bool.and_eq_true, Press.names_iff,
    decide_eq_true_eq, InUse]
  exact exists_congr fun p => ⟨fun ⟨⟨u, hu⟩, service⟩ => ⟨u, hu.1, hu.2, service⟩,
    fun ⟨u, hu, hn, service⟩ => ⟨⟨u, hu, hn⟩, service⟩⟩

/-- The recipe of a press that names no slot but others. -/
theorem State.recipeOf_of_not_names {s t : State} {p : PressId} {n : SlotId} {o : Option Recipe}
    (recipes : t.recipes = s.recipes.set n o) (setup : (t.press p).setup = (s.press p).setup)
    (other : (s.press p).names n = false) : t.recipeOf p = s.recipeOf p := by
  unfold State.recipeOf
  rw [setup, recipes]
  cases hu : (s.press p).setup with
  | none => rfl
  | some u =>
    have ne : n.val ≠ u.slot.val := fun e => by
      have : (s.press p).names n = true := (Press.names_iff _ n).2 ⟨u, hu, (Fin.ext e).symm⟩
      simp [other] at this
    simp [ne]

theorem State.recipeOf_of_names {s t : State} {p : PressId} {n : SlotId} {o : Option Recipe}
    (recipes : t.recipes = s.recipes.set n o) (setup : (t.press p).setup = (s.press p).setup)
    (named : (s.press p).names n = true) : t.recipeOf p = o := by
  obtain ⟨u, hu, rfl⟩ := (Press.names_iff _ n).1 named
  unfold State.recipeOf
  rw [setup, recipes, hu]
  simp

theorem State.storeRecipe_press (s : State) (n : SlotId) (r : Recipe) (p : PressId) : (s.storeRecipe n r).press p =
    (if (s.press p).names n && (s.press p).state == .offline then (s.press p).adopted r s.heat.state
      else s.press p).drive :=
  State.modAll_press ..

theorem State.clearRecipe_press (s : State) (n : SlotId) (p : PressId) : (s.clearRecipe n).press p =
    (if (s.press p).names n && (s.press p).state == .offline then (s.press p).cleared s.heat.state
      else s.press p).drive :=
  State.modAll_press ..

/-- A press of a slot that is not in use is OFFLINE (R31). -/
theorem offline_of_not_inUse {s : State} {n : SlotId} (free : ¬InUse s n) {p : PressId}
    (named : (s.press p).names n = true) : (s.press p).state = .offline := by
  by_contra service
  obtain ⟨u, hu, hn⟩ := (Press.names_iff _ n).1 named
  exact free ⟨p, u, hu, hn, service⟩

theorem Keeps.storeRecipe {s : State} {n : SlotId} {r : Recipe} (free : ¬InUse s n) (ranges : r.inRanges) :
    Keeps s (s.storeRecipe n r) := by
  have recipes : (s.storeRecipe n r).recipes = s.recipes.set n (some r) := rfl
  have press := s.storeRecipe_press n r
  have setup (p : PressId) : ((s.storeRecipe n r).press p).setup = (s.press p).setup := by
    rw [press]
    split <;> rfl
  refine SetupEvent.keeps ⟨fun p => ⟨_, ?_, .inr (press p)⟩, rfl, rfl, rfl, fun k p u hu => ?_, fun valid m q hq => ?_⟩
  · by_cases named : (s.press p).names n = true
    · have offline := offline_of_not_inUse free named
      simp only [State.recipeOf_of_names recipes (setup p) named, named, offline, beq_self_eq_true, Bool.and_self, if_true]
      exact .recipe offline _
    · rw [Bool.not_eq_true] at named
      simp only [State.recipeOf_of_not_names recipes (setup p) named, named, Bool.false_and, Bool.false_eq_true, if_false]
      exact .refl _
  · rw [setup] at hu
    obtain ⟨valid, zones⟩ := (k p).2.1 u hu
    refine ⟨?_, zones⟩
    rw [recipes]
    by_cases e : n.val = u.slot.val
    · simp [e]
    · simpa [e] using valid
  · rw [recipes] at hq
    by_cases e : n.val = m.val
    · obtain rfl : r = q := by simpa [e] using hq
      exact ranges
    · exact valid m q (by simpa [e] using hq)

theorem Keeps.clearRecipe {s : State} {n : SlotId} (free : ¬InUse s n) : Keeps s (s.clearRecipe n) := by
  have recipes : (s.clearRecipe n).recipes = s.recipes.set n none := rfl
  have press := s.clearRecipe_press n
  have cleared {p : PressId} (named : (s.press p).names n = true) :
      (s.clearRecipe n).press p = ((s.press p).cleared s.heat.state).drive := by
    rw [press, named, offline_of_not_inUse free named]
    rfl
  have stays {p : PressId} (other : (s.press p).names n = false) : (s.clearRecipe n).press p = (s.press p).drive := by
    rw [press, other]
    rfl
  refine SetupEvent.keeps ⟨fun p => ?_, rfl, rfl, rfl, fun k p u hu => ?_, fun valid m q hq => ?_⟩
  · cases named : (s.press p).names n with
    | true =>
      have noRecipe : (s.clearRecipe n).recipeOf p = none := by
        unfold State.recipeOf
        rw [cleared named]
        rfl
      rw [noRecipe]
      exact ⟨_, .noSetup (offline_of_not_inUse free named), .inr (cleared named)⟩
    | false =>
      rw [State.recipeOf_of_not_names recipes (by rw [stays named]; rfl) named]
      exact ⟨_, .refl _, .inr (stays named)⟩
  · cases named : (s.press p).names n with
    | true => rw [cleared named] at hu; cases hu
    | false =>
      rw [stays named] at hu
      obtain ⟨valid, zones⟩ := (k p).2.1 u hu
      have ne : n.val ≠ u.slot.val := fun e => by
        have : (s.press p).names n = true := (Press.names_iff _ n).2 ⟨u, hu, (Fin.ext e).symm⟩
        simp [named] at this
      refine ⟨?_, zones⟩
      rw [recipes]
      simpa [ne] using valid
  · rw [recipes] at hq
    by_cases e : n.val = m.val
    · simp [e] at hq
    · exact valid m q (by simpa [e] using hq)

theorem Keeps.setUpPress {s : State} {p : PressId} {u : Setup} {r : Recipe} (offline : (s.press p).state = .offline)
    (valid : s.recipes[u.slot] = some r) (zones : u.zones ≠ 0) : Keeps s (s.setUpPress p u r) := by
  have self : (s.setUpPress p u r).press p = (Press.adopted r s.heat.state { s.press p with setup := some u }).drive :=
    State.modPress_press_self ..
  have others (q : PressId) (h : q ≠ p) : (s.setUpPress p u r).press q = s.press q := State.modPress_press_ne _ _ _ _ h
  refine SetupEvent.keeps ⟨fun q => ?_, rfl, rfl, rfl, fun k q v hv => ?_, fun valid => valid⟩
  · by_cases e : q = p
    · subst e
      have recipe : (s.setUpPress q u r).recipeOf q = some r := by
        unfold State.recipeOf
        rw [self]
        exact valid
      rw [recipe]
      exact ⟨_, .recipe offline (some u), .inr self⟩
    · have recipe : (s.setUpPress p u r).recipeOf q = s.recipeOf q := State.recipeOf_congr (by rw [others q e]) rfl
      rw [recipe]
      exact ⟨_, .refl _, .inl ⟨others q e, rfl⟩⟩
  · by_cases e : q = p
    · subst e
      rw [self] at hv
      obtain rfl : u = v := Option.some.inj hv
      exact ⟨Option.isSome_of_eq_some valid, zones⟩
    · rw [others q e] at hv
      exact (k q).2.1 v hv

/-! ## RESTART -/

theorem State.restart_press (s : State) (p : PressId) :
    s.restart.press p = ((s.press p).restart (s.recipeOf p)).drive :=
  State.modAll_press ..

theorem State.anyContext_iff (s : State) : s.anyContext = true ↔ ∃ p, (s.press p).state.holdsContext = true := by
  simp [State.anyContext]

/-- RESTART of a part without an open context (R181). -/
theorem Keeps.restart {s : State} (closed : ∀ p, (s.press p).state.holdsContext = false) : Keeps s s.restart := by
  have press := s.restart_press
  have noWait (p : PressId) : (s.restart.press p).state ≠ .chargeWait := by rw [press]; nofun
  refine HeatEvent.keeps (new := .off) ⟨fun p => ⟨_, ?_, press p⟩, rfl, rfl, rfl, fun _ p => ?_, fun _ => List.nodup_nil,
    fun _ p waits => absurd waits (noWait p)⟩
  · refine ⟨rfl, iff_of_false nofun fun held => ?_, rfl, fun _ => nofun, fun _ => ⟨nofun, ?_, ?_⟩, fun k => ?_, fun _ z => ?_,
      fun z => Press.withSetpoints_setpoint _ _ _ z⟩
    · have := closed p
      rw [held] at this
      cases this
    · exact iff_of_false nofun fun h => h rfl
    · exact iff_of_false nofun nofun
    · exact .of_none (x := (s.press p).restart (s.recipeOf p)) (k.context_eq_none (closed p)) rfl
    · have zone : ((s.press p).restart (s.recipeOf p)).zones[z] = Zone.reset := by
        simp [Press.restart, Press.withSetpoints]
      rw [zone]
      exact ⟨fun _ => ⟨rfl, rfl, rfl, rfl⟩, fun r _ => ⟨Nat.zero_le _, Nat.zero_le _, nofun⟩, Nat.zero_le _, nofun⟩
  · exact iff_of_false List.not_mem_nil (noWait p)

end Sys2Proof.Machine

/-! SUPPORT. The moves of one press that keep it in its queue: captures, marks, closing, opening, the stroke and the ejector,
and the laws they keep (R2, R11, R14, R16..R20). -/

namespace Sys2Proof.Machine

section Moves

variable {heat : HeatState} {recipe : Option Recipe} {x y : Press}

/-! ## A press in service takes another state -/

/-- A press in service, in no queue, takes another state in service and in no queue: its zones, setup and windows stay, and
its stroke, context and setpoints are as the new state asks. -/
structure Advances (heat : HeatState) (recipe : Option Recipe) (x y : Press) : Prop where
  old : x.state ≠ .offline ∧ x.state ≠ .chargeWait ∧ x.state ≠ .commitHeld
  new : y.state ≠ .offline ∧ y.state ≠ .chargeWait ∧ y.state ≠ .commitHeld
  setup : y.setup = x.setup
  forced : y.forced = (x.forced && y.state.allowsForce)
  window : y.windowStart = x.windowStart
  zones : y.zones = x.zones
  stroke : x.InPlace → (y.stroke.isSome ↔ y.state = .ejecting)
  serial : y.serial = x.serial
  context : x.ContextOk → y.ContextOk
  setpoint : x.SetpointOk heat recipe → y.SetpointOk heat recipe

theorem Advances.move (h : Advances heat recipe x y) : PressMove heat recipe x y where
  setup := h.setup
  forced _ := by simp [Press.ForcedOk, h.forced]
  duty _ k z := by
    have same : y.heldOff heat z = x.heldOff heat z := by
      simp only [Press.heldOff, Press.isActive_congr h.setup, h.zones, beq_eq_false_iff_ne.2 h.old.1,
        beq_eq_false_iff_ne.2 h.new.1]
    rw [same, h.zones]
    exact k z
  setpoint := h.setpoint
  waits := iff_of_false h.new.2.1 h.old.2.1
  held := iff_of_false h.new.2.2 h.old.2.2
  serial := h.serial
  place k := ⟨fun _ => by rw [h.setup]; exact k.setup h.old.1,
    iff_of_true (by rw [h.window]; exact k.window.2 h.old.1) h.new.1, h.stroke k⟩
  context := h.context

/-- The demand on a context after a move that changes it by a function and the state with it. -/
theorem Press.ContextOk.map {f : CycleContext → CycleContext} (h : x.ContextOk) (context : y.context = x.context.map f)
    (holds : y.state.holdsContext = x.state.holdsContext) (fits : ∀ c, c.fits x.state → (f c).fits y.state) :
    y.ContextOk := by
  obtain ⟨present, fit⟩ := h
  refine ⟨by rw [context, Option.isSome_map, holds]; exact present, fun d hd => ?_⟩
  rw [context] at hd
  obtain ⟨c, hc, rfl⟩ := Option.map_eq_some_iff.1 hd
  exact fits c (fit c hc)

theorem Press.serial_of_map {f : CycleContext → CycleContext} (context : y.context = x.context.map f)
    (same : ∀ c, (f c).panel.serial = c.panel.serial) : y.serial = x.serial := by
  rw [Press.serial, Press.serial, context, Option.map_map]
  exact Option.map_congr fun c _ => same c

theorem Press.SetpointOk.congr (h : x.SetpointOk heat recipe) (setpoints : y.setpoints = x.setpoints)
    (segment : y.segment = x.segment) : y.SetpointOk heat recipe := by
  simpa only [Press.SetpointOk, setpoints, segment] using h

/-- Setpoints recomputed meet their law (R68, R69). -/
theorem Press.withSetpoints_ok (recipe : Option Recipe) (heat : HeatState) (x : Press) :
    (x.withSetpoints recipe heat).SetpointOk heat recipe := fun z => by
  cases recipe <;> simp [Press.withSetpoints]

/-! ## Captures and marks -/

theorem PressMove.capture (input : PressInput) (rise : Bool) (t : Clock) (x : Press) :
    PressMove heat recipe x (x.capture input rise t) :=
  .of_sameMarks (by cases input <;> exact ⟨rfl, rfl, rfl, rfl, rfl, rfl, rfl, rfl, rfl⟩)

theorem PressMove.setFilter (input : PressInput) (f : InputFilter) (x : Press) :
    PressMove heat recipe x (x.setFilter input f) :=
  .of_sameMarks (by cases input <;> exact ⟨rfl, rfl, rfl, rfl, rfl, rfl, rfl, rfl, rfl⟩)

/-- Change flags are read by no law. -/
theorem PressMove.setChanges (f : ChangeFlags) (x : Press) : PressMove heat recipe x { x with changes := f } :=
  .of_sameMarks ⟨rfl, rfl, rfl, rfl, rfl, rfl, rfl, rfl, rfl⟩

/-- Contact moves within the pulse, and the context but for what a state asks. -/
theorem PressMove.recordContact (t : Clock) (x : Press) : PressMove heat recipe x (x.recordContact t) := by
  unfold Press.recordContact
  split
  next ends start _ stroke =>
    split
    next =>
      refine .trans (.onContext (f := CycleContext.onPanel fun r => { r with contactDelay := some (spanMs t start) })
        (fun c => ⟨rfl, fun st => ?_⟩) x) (.of_sameMarks ?_)
      · cases st <;> exact id
      · exact ⟨rfl, rfl, by simp [stroke], rfl, rfl, rfl, rfl, rfl, rfl⟩
    next => exact .refl x
  next => exact .refl x

/-! ## Closing, opening and the stroke -/

/-- A press with a charge closes on it, its setpoints recomputed (R11, R71). -/
theorem Advances.close (t : Clock) (ready : x.state = .chargeReady) :
    Advances heat recipe x ((x.close recipe t).withSetpoints recipe heat) where
  old := by simp [ready]
  new := by simp [Press.close, Press.withSetpoints]
  setup := rfl
  forced := rfl
  window := rfl
  zones := rfl
  stroke place := by
    have none := place.stroke
    rw [ready] at none
    exact (iff_of_false (fun h => nomatch none.1 h) (by simp [Press.close, Press.withSetpoints]))
  serial := Press.serial_of_map rfl fun _ => rfl
  context h := h.map rfl (by rw [ready]; rfl) fun c k => by
    rw [ready] at k
    exact ⟨rfl, k.2.1, rfl, rfl⟩
  setpoint _ := Press.withSetpoints_ok _ _ _

/-- A press opens, its setpoints recomputed (R14, R15, R71). -/
theorem Advances.openUp (early : Bool) (stroke : Stroke) (t : Clock) (closed : x.state.isClosed = true) :
    Advances heat recipe x ((x.openUp early stroke t).withSetpoints recipe heat) where
  old := by cases h : x.state <;> simp_all [PressState.isClosed]
  new := by simp [Press.openUp, Press.withSetpoints]
  setup := rfl
  forced := rfl
  window := rfl
  zones := rfl
  stroke _ := iff_of_true rfl rfl
  serial := Press.serial_of_map rfl fun _ => rfl
  context h := by
    have holds : x.state.holdsContext = true := by cases k : x.state <;> simp_all [PressState.isClosed, PressState.holdsContext]
    refine h.map rfl (by rw [holds]; rfl) fun c k => ?_
    have fits : c.fits .curing := by cases e : x.state <;> simp_all [PressState.isClosed, CycleContext.fits]
    obtain ⟨close, -, acc, steps⟩ := fits
    exact ⟨close, rfl, acc, steps, acc⟩
  setpoint _ := Press.withSetpoints_ok _ _ _

/-- The stroke of a press in EJECTING changes. -/
theorem PressMove.setStroke {stroke : Stroke} (running : x.stroke.isSome) : PressMove heat recipe x { x with stroke := some stroke } :=
  .of_sameMarks ⟨rfl, rfl, by simp [running], rfl, rfl, rfl, rfl, rfl, rfl⟩

/-- A pulse ends (R18). -/
theorem Advances.endPulse (contact : Bool) (ejecting : x.state = .ejecting) :
    Advances heat recipe x { x.enter (if contact then .unloadWait else .ejectFault) with stroke := none } where
  old := by simp [ejecting]
  new := by cases contact <;> simp
  setup := rfl
  forced := rfl
  window := rfl
  zones := rfl
  stroke _ := iff_of_false (by simp) (by cases contact <;> simp)
  serial := rfl
  context h := Press.ContextOk.map (f := id) h (by simp) (by rw [ejecting]; cases contact <;> rfl) fun c k => by
    rw [ejecting] at k
    cases contact <;> exact k
  setpoint h := h.congr rfl rfl

/-- A press in EJECT_FAULT starts another pulse (R19). -/
theorem Advances.retry {f : PanelRecord → PanelRecord} (stroke : Stroke) (fault : x.state = .ejectFault)
    (serial : ∀ r, (f r).serial = r.serial)
    (fits : ∀ c : CycleContext, c.fits .ejecting → (c.onPanel f).fits .ejecting) :
    Advances heat recipe x { (x.onContext (CycleContext.onPanel f)).enter .ejecting with stroke := some stroke } where
  old := by simp [fault]
  new := by simp
  setup := rfl
  forced := rfl
  window := rfl
  zones := rfl
  stroke _ := iff_of_true rfl rfl
  serial := Press.serial_of_map rfl fun c => serial c.panel
  context h := h.map rfl (by rw [fault]; rfl) fun c k => fits c (by rw [fault] at k; exact k)
  setpoint h := h.congr rfl rfl

/-- A press moves from CURING to DEMOULD_DUE (R13). -/
theorem Advances.due (curing : x.state = .curing) : Advances heat recipe x (x.enter .demouldDue) where
  old := by simp [curing]
  new := by simp
  setup := rfl
  forced := rfl
  window := rfl
  zones := rfl
  stroke place := iff_of_false (fun h => by have := place.stroke.1 h; simp [curing] at this) (by simp)
  serial := rfl
  context h := Press.ContextOk.map (f := id) h (by simp) (by rw [curing]; rfl) fun c k => by rw [curing] at k; exact k
  setpoint h := h.congr rfl rfl

/-- A press moves from EJECT_FAULT to UNLOAD_WAIT (R23). -/
theorem Advances.unload (fault : x.state = .ejectFault) : Advances heat recipe x (x.enter .unloadWait) where
  old := by simp [fault]
  new := by simp
  setup := rfl
  forced := rfl
  window := rfl
  zones := rfl
  stroke place := iff_of_false (fun h => by have := place.stroke.1 h; simp [fault] at this) (by simp)
  serial := rfl
  context h := Press.ContextOk.map (f := id) h (by simp) (by rw [fault]; rfl) fun c k => by rw [fault] at k; exact k
  setpoint h := h.congr rfl rfl

/-- The forced level is set where it may stand (R20). -/
theorem PressMove.force (on : Bool) (allowed : x.state.allowsForce = true) : PressMove heat recipe x { x with forced := on } :=
  ⟨⟨rfl, fun _ _ => allowed, fun _ => id, id⟩, .rfl, .rfl, rfl, fun h => ⟨h.setup, h.window, h.stroke⟩, id⟩

end Moves

end Sys2Proof.Machine

/-! SUPPORT. The moves of a press's zones: samples, windows, on-times and modes, and the law of duties they keep (R47, R48,
R53, R54, R56..R58). -/

namespace Sys2Proof.Machine

/-- The law of duties at one zone: cold where a hold-off cause holds, within the recipe's bound, and sane. -/
structure Zone.DutyOk (recipe : Option Recipe) (held : Bool) (q : Zone) : Prop where
  cold : held = true → q.Cold
  within : ∀ r, recipe = some r → q.Within r.maxDuty
  sane : q.Sane

section Moves

variable {heat : HeatState} {recipe : Option Recipe} {x : Press} {z : ZoneId} {f : Zone → Zone}

theorem Press.dutyOk_iff : x.DutyOk heat recipe ↔ ∀ z : ZoneId, x.zones[z].DutyOk recipe (x.heldOff heat z) :=
  forall_congr' fun _ => ⟨fun ⟨a, b, c⟩ => ⟨a, b, c⟩, fun ⟨a, b, c⟩ => ⟨a, b, c⟩⟩

/-- The hold-off causes of the other zones do not depend on a zone that changes. -/
theorem Press.modZone_heldOff_ne {w : ZoneId} (h : w ≠ z) : (x.modZone z f).heldOff heat w = x.heldOff heat w :=
  Press.heldOff_congr rfl rfl (by rw [Press.modZone_zone_ne x z w f h]) (by rw [Press.modZone_zone_ne x z w f h])

/-- A zone that keeps its mode and its sensor state keeps its hold-off causes. -/
theorem Press.modZone_heldOff_self (mode : (f x.zones[z]).mode = x.zones[z].mode)
    (sensor : (f x.zones[z]).sensor = x.zones[z].sensor) : (x.modZone z f).heldOff heat z = x.heldOff heat z :=
  Press.heldOff_congr rfl rfl (by rw [Press.modZone_zone_self, mode]) (by rw [Press.modZone_zone_self, sensor])

/-- A change of one zone that keeps the law of duties there. -/
theorem PressMove.modZone
    (h : (∀ r, recipe = some r → r.maxDuty ≤ 1000) → x.zones[z].DutyOk recipe (x.heldOff heat z) →
      (f x.zones[z]).DutyOk recipe ((x.modZone z f).heldOff heat z)) :
    PressMove heat recipe x (x.modZone z f) := by
  refine .of_zones fun bound k => ?_
  rw [Press.dutyOk_iff] at k ⊢
  intro w
  show (x.modZone z f).zones[w].DutyOk recipe ((x.modZone z f).heldOff heat w)
  by_cases e : w = z
  · subst e
    rw [Press.modZone_zone_self]
    exact h bound (k w)
  · rw [Press.modZone_zone_ne x z w f e, Press.modZone_heldOff_ne e]
    exact k w

/-- A change of every zone that moves no mode and no sensor, and keeps the law of duties at each. -/
theorem PressMove.modZones {f : ZoneId → Zone → Zone}
    (mode : ∀ z : ZoneId, (f z x.zones[z]).mode = x.zones[z].mode)
    (sensor : ∀ z : ZoneId, (f z x.zones[z]).sensor = x.zones[z].sensor)
    (h : ∀ z : ZoneId, x.zones[z].DutyOk recipe (x.heldOff heat z) → (f z x.zones[z]).DutyOk recipe (x.heldOff heat z)) :
    PressMove heat recipe x (x.modZones f) := by
  refine .of_zones fun _ k => ?_
  rw [Press.dutyOk_iff] at k ⊢
  intro w
  show (x.modZones f).zones[w].DutyOk recipe ((x.modZones f).heldOff heat w)
  have same : (x.modZones f).heldOff heat w = x.heldOff heat w :=
    Press.heldOff_congr rfl rfl (by rw [Press.modZones_zone, mode]) (by rw [Press.modZones_zone, sensor])
  rw [same, Press.modZones_zone]
  exact h w (k w)

/-! ## Windows and on-times -/

/-- A zone's law of duties as a window starts: its pending duty becomes its applied one (R56). -/
theorem Zone.DutyOk.startWindow {q : Zone} {held : Bool} (h : q.DutyOk recipe held) (window : Nat) :
    Zone.DutyOk recipe held { q with applied := q.pending, heater := decide (0 < onTimeMs q.pending window) } where
  cold k := by
    obtain ⟨pending, -, -, integral⟩ := h.cold k
    exact ⟨pending, pending, by simp [pending, onTimeMs], integral⟩
  within r hr := ⟨(h.within r hr).1, (h.within r hr).1, (h.within r hr).2.2⟩
  sane := by
    refine ⟨h.sane.1, fun on => ?_⟩
    rcases Nat.eq_zero_or_pos q.pending with zero | pos
    · simp [zero, onTimeMs] at on
    · exact pos

/-- A window starts in a press that has its windows (R55, R56). -/
theorem PressMove.startWindow {start : Clock} {window : Nat} (running : x.windowStart.isSome) :
    PressMove heat recipe x (x.startWindow start window) := by
  refine .trans (y := { x with windowStart := some start })
    (.of_sameMarks ⟨rfl, rfl, rfl, rfl, rfl, by simp [running], rfl, rfl, rfl⟩) ?_
  exact .modZones (fun _ => rfl) (fun _ => rfl) fun z k => k.startWindow window

/-- A heater goes off (R57). -/
theorem PressMove.heaterOff (z : ZoneId) (x : Press) :
    PressMove heat recipe x (x.modZone z fun q => { q with heater := false }) := by
  refine .modZone fun _ k => ⟨fun held => ?_, fun r hr => k.within r hr, k.sane.1, by simp⟩
  rw [Press.modZone_heldOff_self rfl rfl] at held
  obtain ⟨pending, applied, -, integral⟩ := k.cold held
  exact ⟨pending, applied, rfl, integral⟩

/-! ## Modes -/

/-- A hold-off cause that is not a zone's own mode holds whatever the mode was. -/
theorem Press.heldOff_of_mode {mode : ZoneMode} {manual : Nat} (on : mode ≠ .off)
    (h : (x.modZone z fun q => { q with mode := mode, manual := manual }).heldOff heat z = true) :
    x.heldOff heat z = true := by
  rw [Press.heldOff_iff, Press.modZone_zone_self] at h
  rw [Press.heldOff_iff]
  rcases h with h | h | h | h | h
  · exact .inl h
  · exact .inr (.inl h)
  · exact .inr (.inr (.inl h))
  · exact absurd h on
  · exact .inr (.inr (.inr (.inr h)))

/-- The bound of a manual duty is a recipe's max_duty, and at most 1000 (R54). -/
theorem dutyBound_le (bound : ∀ r, recipe = some r → r.maxDuty ≤ 1000) : dutyBound recipe ≤ 1000 := by
  cases recipe with
  | none => exact le_refl _
  | some r => exact bound r rfl

/-- A zone that keeps its duties and turns on from OFF or from the other mode keeps the law of duties. -/
theorem PressMove.setMode {mode : ZoneMode} {manual : Nat} (on : mode ≠ .off)
    (le : mode = .manual → ∀ r, recipe = some r → manual ≤ r.maxDuty)
    (small : (∀ r, recipe = some r → r.maxDuty ≤ 1000) → x.zones[z].Sane → manual ≤ 1000) :
    PressMove heat recipe x (x.modZone z fun q => { q with mode := mode, manual := manual }) :=
  .modZone fun bound k =>
    ⟨fun held => k.cold (Press.heldOff_of_mode on held),
      fun r hr => ⟨(k.within r hr).1, (k.within r hr).2.1, fun m => le m r hr⟩,
      small bound k.sane, k.sane.2⟩

/-- ZONE_MODE keeps the law of duties (R53, R54). -/
theorem PressMove.takeMode (z : ZoneId) (mode : ZoneMode) (duty : Nat) (x : Press) :
    PressMove heat recipe x (x.takeMode heat (dutyBound recipe) z mode duty) := by
  cases mode with
  | auto => exact .setMode (mode := .auto) (manual := x.zones[z].manual) (by simp) (by simp) fun _ k => k.1
  | off =>
    refine .modZone (f := fun q => Zone.holdOff { q with mode := .off }) fun _ k =>
      ⟨fun _ => Zone.holdOff_cold _, fun r hr => ?_, ?_⟩
    · exact Zone.Cold.within (Zone.holdOff_cold _) _ (by simp)
    · exact ⟨k.sane.1, by simp⟩
  | manual =>
    have bounded (r : Recipe) (hr : recipe = some r) : min duty (dutyBound recipe) ≤ r.maxDuty := by
      subst hr; exact min_le_right _ _
    refine .trans (.setMode (z := z) (mode := .manual) (manual := min duty (dutyBound recipe)) (by simp)
      (fun _ => bounded) fun bound _ => (min_le_right _ _).trans (dutyBound_le bound)) ?_
    set y := x.modZone z fun q => { q with mode := .manual, manual := min duty (dutyBound recipe) } with hy
    have manual : y.zones[z].mode = .manual := by rw [hy, Press.modZone_zone_self]
    refine .modZone (f := fun q => { q with pending := if y.heldOff heat z then 0 else q.manual }) fun _ k => ?_
    rw [Press.modZone_heldOff_self rfl rfl]
    refine ⟨fun held => ?_, fun r hr => ⟨?_, (k.within r hr).2.1, (k.within r hr).2.2⟩, k.sane⟩
    · obtain ⟨-, applied, off, integral⟩ := k.cold held
      exact ⟨if_pos held, applied, off, integral⟩
    · show (if y.heldOff heat z = true then 0 else y.zones[z].manual) ≤ r.maxDuty
      split
      · exact Nat.zero_le _
      · exact (k.within r hr).2.2 manual

/-! ## Samples -/

/-- A sample moves the sensor, and holds the zone off as it enters FAULT (R44, R47). -/
theorem PressMove.sampled (z : ZoneId) (v : ZoneSample) (x : Press) :
    PressMove heat recipe x (x.modZone z (Zone.sampled v)) := by
  refine .modZone fun _ k => ?_
  by_cases enters : (x.zones[z].sampled v).sensor = .fault ∧ x.zones[z].sensor ≠ .fault
  · obtain ⟨_, _, _, _, _, _, rfl, ⟨-, -, e⟩ | ⟨stays, e⟩⟩ := x.zones[z].sampled_spec v
    · rw [e]
      exact ⟨fun _ => Zone.holdOff_cold _, fun r hr => Zone.Cold.within (Zone.holdOff_cold _) _ (k.within r hr).2.2,
        k.sane.1, by simp⟩
    · rw [e] at enters
      exact absurd enters stays
  · obtain ⟨pending, integral, applied, heater⟩ := Zone.sampled_of_not_enters_fault _ v enters
    refine ⟨fun held => ?_, fun r hr => ?_, ?_⟩
    · have before : x.heldOff heat z = true := by
        rw [Press.sampled_heldOff_iff] at held
        rw [Press.heldOff_iff]
        refine held.imp_right (.imp_right (.imp_right (.imp_right fun fault => ?_)))
        by_contra good
        exact enters ⟨fault, good⟩
      simpa only [Zone.Cold, pending, integral, applied, heater] using k.cold before
    · simpa only [Zone.Within, pending, applied, Zone.sampled_mode, Zone.sampled_manual] using k.within r hr
    · simpa only [Zone.Sane, applied, heater, Zone.sampled_manual] using k.sane

/-- The control law's output lies within max_duty (R51). -/
theorem lawOutput_le (p i : Int) (maxDuty : Nat) : lawOutput p i maxDuty ≤ maxDuty := by
  have := lawOutput_eq p i maxDuty
  omega

/-- Setting the pending duty keeps a zone's law of duties (R48, R51). -/
theorem Zone.DutyOk.setPending {q : Zone} {held : Bool} (h : q.DutyOk recipe held) (setpoint : Int) :
    (q.setPending held recipe setpoint).DutyOk recipe held := by
  cases held with
  | true =>
    obtain ⟨-, applied, off, -⟩ := h.cold rfl
    exact ⟨fun _ => ⟨rfl, applied, off, rfl⟩, fun r hr => ⟨Nat.zero_le _, (h.within r hr).2.1, (h.within r hr).2.2⟩, h.sane⟩
  | false =>
    refine ⟨(nomatch ·), fun r hr => ?_, ?_⟩
    · subst hr
      obtain ⟨pending, applied, manual⟩ := h.within r rfl
      cases hm : q.mode with
      | auto => rw [Zone.setPending_auto _ _ r hm]; exact ⟨lawOutput_le .., applied, manual⟩
      | manual => rw [Zone.setPending_manual _ _ _ hm]; exact ⟨manual hm, applied, manual⟩
      | off =>
        have e : q.setPending false (some r) setpoint = { q with pending := 0, integral := 0 } := by simp [Zone.setPending, hm]
        rw [e]
        exact ⟨Nat.zero_le _, applied, manual⟩
    · obtain ⟨_, _, e⟩ := q.setPending_spec false recipe setpoint
      rw [e]; exact h.sane

/-- A zone's pending duty is set on the hold-off causes that hold (R48). -/
theorem PressMove.setPending (z : ZoneId) (x : Press) :
    PressMove heat recipe x (x.modZone z (Zone.setPending (x.heldOff heat z) recipe x.setpoints[z])) := by
  refine .modZone fun _ k => ?_
  have mode : (x.zones[z].setPending (x.heldOff heat z) recipe x.setpoints[z]).mode = x.zones[z].mode := by
    obtain ⟨_, _, e⟩ := x.zones[z].setPending_spec (x.heldOff heat z) recipe x.setpoints[z]
    rw [e]
  rw [Press.modZone_heldOff_self mode (Zone.setPending_sensor ..)]
  exact k.setPending _

/-- What a press notes of a sensor that has moved from a state: the change flag at an entry into or a return from FAULT, and
SENSOR_FAULT at an entry of an active zone in a marked state (R44, R46). -/
def Press.noteSensor (before : SensorState) (z : ZoneId) (x : Press) : Press :=
  let entered := decide (x.zones[z].sensor = .fault) && decide (before ≠ .fault)
  let left := decide (x.zones[z].sensor ≠ .fault) && decide (before = .fault)
  let y := if entered || left then { x with changes := { x.changes with zoneFaultChange := true } } else x
  if entered && y.isActive z && y.state.isMarked then y.addFlag fun f => { f with sensorFault := true } else y

/-- A press with a zone whose sample is taken, its pending duty not yet set (R44, R46). -/
def Press.supervised (z : ZoneId) (v : ZoneSample) (x : Press) : Press :=
  (x.modZone z (Zone.sampled v)).noteSensor x.zones[z].sensor z

theorem Press.zoneSample_eq (z : ZoneId) (v : ZoneSample) (x : Press) : x.zoneSample heat recipe z v =
    (x.supervised z v).modZone z
      (Zone.setPending ((x.supervised z v).heldOff heat z) recipe (x.supervised z v).setpoints[z]) := rfl

theorem PressMove.noteSensor (before : SensorState) (z : ZoneId) (x : Press) :
    PressMove heat recipe x (x.noteSensor before z) := by
  unfold Press.noteSensor
  dsimp only
  split
  all_goals
    refine .ite (fun _ => ?_) fun _ => ?_
  · exact (PressMove.setChanges _ x).trans (.addFlag _ _)
  · exact .setChanges _ x
  · exact .addFlag _ _
  · exact .refl _

/-- A converter sample: the sensor moves, flags follow, and the pending duty is set (R44, R46, R48). -/
theorem PressMove.zoneSample (z : ZoneId) (v : ZoneSample) (x : Press) :
    PressMove heat recipe x (x.zoneSample heat recipe z v) :=
  ((PressMove.sampled z v x).trans (.noteSensor _ z _)).trans (.setPending z _)

end Moves

end Sys2Proof.Machine

/-! SUPPORT. A press scan part by part, each as what it makes of one press and of the press's place in the scale queue (R43). -/

namespace Sys2Proof.Machine

/-! ## One press and the scale queue replaced -/

/-- The part with one press and the scale queue replaced. -/
def State.seat (s : State) (p : PressId) (x : Press) (queue : List PressId) : State :=
  { s with presses := s.presses.set p x, scale := { s.scale with queue := queue } }

section Seat

variable (s : State) (p q : PressId) (x y : Press) (queue queue' : List PressId)

@[simp] theorem State.seat_press_self : (s.seat p x queue).press p = x := by
  simp [State.seat, State.press]

theorem State.seat_press_ne {q : PressId} (h : q ≠ p) : (s.seat p x queue).press q = s.press q := by
  have : p.val ≠ q.val := fun e => h (Fin.ext e.symm)
  simp [State.seat, State.press, this]

@[simp] theorem State.seat_clock : (s.seat p x queue).clock = s.clock := rfl

@[simp] theorem State.seat_cell : (s.seat p x queue).cell = s.cell := rfl

@[simp] theorem State.seat_recipes : (s.seat p x queue).recipes = s.recipes := rfl

@[simp] theorem State.seat_heat : (s.seat p x queue).heat = s.heat := rfl

@[simp] theorem State.seat_scale : (s.seat p x queue).scale = { s.scale with queue := queue } := rfl

@[simp] theorem State.seat_history : (s.seat p x queue).history = s.history := rfl

@[simp] theorem State.seat_attention : (s.seat p x queue).attention = s.attention := rfl

@[simp] theorem State.seat_link : (s.seat p x queue).link = s.link := rfl

@[simp] theorem State.seat_seat : (s.seat p x queue).seat p y queue' = s.seat p y queue' := by
  simp [State.seat]

/-- A press that keeps its setup reads the same recipe. -/
theorem State.seat_recipeOf {x : Press} (setup : x.setup = (s.press p).setup) :
    (s.seat p x queue).recipeOf p = s.recipeOf p :=
  State.recipeOf_congr (by rw [State.seat_press_self, setup]) rfl

/-- A change of one press. -/
theorem State.modPress_eq_seat (f : Press → Press) : s.modPress p f = s.seat p (f (s.press p)).drive s.scale.queue := rfl

@[simp] theorem State.seat_modPress (f : Press → Press) : (s.seat p x queue).modPress p f = s.seat p (f x).drive queue := by
  rw [State.modPress_eq_seat, State.seat_press_self, State.seat_scale, State.seat_seat]

/-- A press that enters HEATING with its admission evaluated. -/
def Press.heated (heat : HeatState) (x : Press) : Press :=
  if x.admissible heat then (x.enter .chargeWait).drive else (x.enter .heating).drive

@[simp] theorem State.seat_admits : (s.seat p x queue).admits p = x.admissible s.heat.state := by
  rw [State.admits_eq, State.seat_press_self, State.seat_heat]

theorem State.seat_evaluateAdmission_of_joins (h : x.joins s.heat.state = true) :
    (s.seat p x queue).evaluateAdmission p = s.seat p (x.enter .chargeWait).drive (queue ++ [p]) := by
  simp only [Press.joins, Bool.and_eq_true, beq_iff_eq] at h
  unfold State.evaluateAdmission
  rw [if_pos (by rw [State.seat_press_self, State.seat_admits]; exact h), State.seat_modPress]
  rfl

theorem State.seat_evaluateAdmission_of_not_joins (h : x.joins s.heat.state = false) :
    (s.seat p x queue).evaluateAdmission p = s.seat p x queue := by
  refine if_neg fun k => ?_
  rw [State.seat_press_self, State.seat_admits] at k
  simp [Press.joins, k] at h

theorem State.seat_enterHeating : (s.seat p x queue).enterHeating p =
    s.seat p (x.heated s.heat.state) (if x.admissible s.heat.state then queue ++ [p] else queue) := by
  rw [State.enterHeating, State.seat_modPress]
  have joins : (x.enter .heating).drive.joins s.heat.state = x.admissible s.heat.state := rfl
  cases h : x.admissible s.heat.state with
  | true =>
    rw [State.seat_evaluateAdmission_of_joins _ _ _ _ (joins.trans h), Press.heated, if_pos h, if_pos rfl]
    simp [Press.drive, Press.enter, PressState.allowsForce]
    rfl
  | false =>
    rw [State.seat_evaluateAdmission_of_not_joins _ _ _ _ (joins.trans h), Press.heated, if_neg (by simp [h]),
      if_neg (by simp)]

theorem State.leaveQueue_eq_seat : s.leaveQueue p = s.seat p (s.press p) (s.scale.queue.filter (· ≠ p)) := by
  simp [State.leaveQueue, State.seat, State.press]

end Seat

/-! ## The profile and the setpoints -/

section Parts

variable {s : State} {p : PressId}

/-- A change of one press depends on what it makes of that press. -/
theorem State.modPress_congr {f g : Press → Press} (h : f (s.press p) = g (s.press p)) : s.modPress p f = s.modPress p g := by
  rw [State.modPress_eq_seat, State.modPress_eq_seat, h]

theorem State.modPress_congr_driven {f g : Press → Press} (h : (f (s.press p)).drive = (g (s.press p)).drive) :
    s.modPress p f = s.modPress p g := by
  rw [State.modPress_eq_seat, State.modPress_eq_seat, h]

/-- A press changes, and its setpoints follow (R69). -/
theorem State.modPress_recompute {f : Press → Press} (setup : (f (s.press p)).setup = (s.press p).setup) :
    (s.modPress p f).recomputeSetpoints p =
      s.modPress p fun x => (f x).withSetpoints (s.recipeOf p) s.heat.state := by
  unfold State.recomputeSetpoints
  rw [State.recipeOf_modPress s p p f setup, State.modPress_modPress]
  exact State.modPress_congr_driven rfl

/-- What the profile unit makes of a press at a press scan (R71, R72). -/
def Press.profiled (recipe : Option Recipe) (now : Clock) (x : Press) : Press :=
  if x.state.isClosed then
    match recipe, x.context.bind fun c => c.panel.closeTime with
    | some r, some close => (x.moveProfile r now close).raiseSegment
    | _, _ => x
  else x

theorem Press.profiled_setup (recipe : Option Recipe) (now : Clock) (x : Press) :
    (x.profiled recipe now).setup = x.setup := by
  unfold Press.profiled Press.moveProfile Press.raiseSegment
  repeat' split
  all_goals rfl

/-- The profile unit moves its press, or leaves it as it was (R71). -/
theorem State.profileScan_spec (s : State) (p : PressId) :
    s.profileScan p = s.modPress p (Press.profiled (s.recipeOf p) s.clock) ∨
      s.profileScan p = s ∧ (s.press p).profiled (s.recipeOf p) s.clock = s.press p := by
  by_cases closed : (s.press p).state.isClosed = true
  · cases hr : s.recipeOf p with
    | none => exact .inr ⟨by simp [State.profileScan, hr], by simp [Press.profiled]⟩
    | some r =>
      cases hc : (s.press p).context.bind fun c => c.panel.closeTime with
      | none => exact .inr ⟨by simp [State.profileScan, hc], by simp [Press.profiled, hc]⟩
      | some close =>
        refine .inl ?_
        have e : s.profileScan p = s.modPress p fun x => (x.moveProfile r s.clock close).raiseSegment := by
          simp [State.profileScan, closed, hr, hc]
        rw [e]
        exact State.modPress_congr (by simp [Press.profiled, closed, hc])
  · exact .inr ⟨by simp [State.profileScan, closed], by simp [Press.profiled, closed]⟩

/-- The profile moves and the setpoints follow it (R69, R71). -/
theorem State.profileScan_recompute (s : State) (p : PressId) : (s.profileScan p).recomputeSetpoints p =
    s.modPress p fun x => (x.profiled (s.recipeOf p) s.clock).withSetpoints (s.recipeOf p) s.heat.state := by
  rcases s.profileScan_spec p with e | ⟨e, same⟩
  · rw [e, State.modPress_recompute (Press.profiled_setup ..)]
  · rw [e, State.recomputeSetpoints]
    exact State.modPress_congr (by rw [same])

/-! ## Readiness -/

/-- What a turn of readiness marks in a press (R74, R77). -/
def Press.turned (x : Press) : Press :=
  if x.ready then
    let y : Press := { x with ready := false, run := 0, changes := { x.changes with readyFell := true } }
    if y.state.isMarked then y.addFlag fun f => { f with tempExcursion := true } else y
  else { x with ready := true, run := 0, changes := { x.changes with readyRose := true } }

@[simp] theorem Press.turned_state (x : Press) : x.turned.state = x.state := by
  unfold Press.turned
  split
  · dsimp only
    split <;> rfl
  · rfl

@[simp] theorem Press.turned_setup (x : Press) : x.turned.setup = x.setup := by
  unfold Press.turned
  split
  · dsimp only
    split <;> rfl
  · rfl

/-- A scan that counts toward a turn of readiness (R74, R75). -/
def Press.counts (r : Recipe) (x : Press) : Bool := if x.ready then x.drops r else x.qualifies r

/-- A scan turns readiness: it counts, and ends the run (R74, R75). -/
def Press.turns (recipe : Option Recipe) (x : Press) : Bool :=
  match recipe with
  | some r => x.counts r && decide (runGoal r x.ready ≤ x.run + 1)
  | none => false

theorem Press.turns_iff {r : Recipe} {x : Press} :
    x.turns (some r) = true ↔ x.counts r = true ∧ runGoal r x.ready ≤ x.run + 1 := by
  simp [Press.turns]

/-- What the readiness unit makes of a press at a press scan, its place in the scale queue apart (R73..R75). -/
def Press.judged (recipe : Option Recipe) (x : Press) : Press :=
  match recipe with
  | none => x.resetReadiness
  | some r =>
    if x.counts r then
      if runGoal r x.ready ≤ x.run + 1 then x.turned else { x with run := x.run + 1 }
    else { x with run := 0 }

/-- What becomes of the place of a press after the readiness unit has judged it (R74, R77, R78). -/
theorem State.readinessScan_eq (s : State) (p : PressId) (x : Press) (hx : s.press p = x) : s.readinessScan p =
    if x.turns (s.recipeOf p) then
      if x.ready then
        if x.state = .chargeWait ∧ x.setup.map (·.gating) = some .autoGate then
          (s.modPress p (Press.judged (s.recipeOf p))).withdraw p
        else s.modPress p (Press.judged (s.recipeOf p))
      else (s.modPress p (Press.judged (s.recipeOf p))).evaluateAdmission p
    else s.modPress p (Press.judged (s.recipeOf p)) := by
  subst hx
  have judged (f : Press → Press) (h : f (s.press p) = (s.press p).judged (s.recipeOf p)) :
      s.modPress p f = s.modPress p (Press.judged (s.recipeOf p)) := State.modPress_congr h
  unfold State.readinessScan
  cases hr : s.recipeOf p with
  | none =>
    rw [if_neg (by simp [Press.turns])]
    rfl
  | some r =>
    rw [hr] at judged
    dsimp only
    change (if (s.press p).counts r = true then _ else _) = _
    by_cases counts : (s.press p).counts r = true
    · rw [if_pos counts]
      by_cases ends : runGoal r (s.press p).ready ≤ (s.press p).run + 1
      · have same : (s.press p).judged (some r) = (s.press p).turned := by
          rw [Press.judged, if_pos counts, if_pos ends]
        rw [if_pos ends, if_pos (Press.turns_iff.2 ⟨counts, ends⟩)]
        unfold State.turnReadiness
        by_cases ready : (s.press p).ready = true
        · rw [if_pos ready, if_pos ready]
          dsimp only
          rw [judged _ (by rw [same, Press.turned, if_pos ready])]
          simp only [State.modPress_press_self, same, Press.drive_state, Press.drive_setup, Press.turned_state,
            Press.turned_setup]
        · rw [if_neg ready, if_neg ready]
          dsimp only
          rw [judged _ (by rw [same, Press.turned, if_neg ready])]
      · rw [if_neg ends, if_neg fun h => ends (Press.turns_iff.1 h).2]
        exact judged (fun x => { x with run := x.run + 1 }) (by rw [Press.judged, if_pos counts, if_neg ends])
    · rw [if_neg counts, if_neg fun h => counts (Press.turns_iff.1 h).1]
      exact judged (fun x => { x with run := 0 }) (by rw [Press.judged, if_neg counts])

/-! ## Deviations and the cure step -/

/-- What the deviation unit makes of a press at a press scan (R80). -/
def Press.tracked (x : Press) : Press :=
  if x.state.isClosed then x.onContext (CycleContext.onPanel (PanelRecord.track x.deviations)) else x

/-- The rate of a cure step: none without a counted zone (R85, R86). -/
def Press.cureRate (cell : RoundingMode) (r : Recipe) (x : Press) : Option StepRate := x.coldest.map (stepRate cell r x)

/-- The context as a cure step accumulates it (R86, R89, R95). -/
def Press.accumulated (cell : RoundingMode) (r : Recipe) (c : CycleContext) (x : Press) : CycleContext :=
  (c.onFlags (stepFlags (x.cureRate cell r))).accumulate (StepRate.incrementOf (x.cureRate cell r))

/-- The demould decision of a cure step (R97). -/
def Press.cureDecision (cell : RoundingMode) (r : Recipe) (now : Clock) (c : CycleContext) (x : Press) : Decision :=
  if x.state = .curing then
    demouldDecision r (spanMs now ((x.accumulated cell r c).panel.closeTime.getD 0))
      ((x.accumulated cell r c).accumulator.getD 0)
  else .noDecision

/-- The context a cure step leaves (R95, R99). -/
def Press.curedContext (cell : RoundingMode) (r : Recipe) (now : Clock) (c : CycleContext) (x : Press) : CycleContext :=
  if x.cureDecision cell r now c = .dueAtMaxClose ∧ (x.accumulated cell r c).accumulator.getD 0 < targetCu r then
    (x.accumulated cell r c).onFlags fun f => { f with undercure := true }
  else x.accumulated cell r c

/-- The last-step record of a cure step (R100). -/
def Press.cureRecord (cell : RoundingMode) (r : Recipe) (now : Clock) (c : CycleContext) (x : Press) : StepRecord where
  time := now
  number := (x.curedContext cell r now c).stepCount.getD 0
  counted := x.countedZones.length
  rate := x.cureRate cell r
  increment := StepRate.incrementOf (x.cureRate cell r)
  decision := x.cureDecision cell r now c

/-- A cure step: the context, the last-step record, and the move of a press that is due (R13, R83). -/
theorem Press.cureStep_eq (cell : RoundingMode) (r : Recipe) (now : Clock) (c : CycleContext) (x : Press) :
    x.cureStep cell r now c =
      let y : Press := { x with
        context := some (x.curedContext cell r now c), lastStep := some (x.cureRecord cell r now c) }
      match x.cureDecision cell r now c with
      | .due | .dueAtMaxClose => y.enter .demouldDue
      | .notDue | .noDecision => y := rfl

/-- What the cure unit makes of a press at a press scan (R83). -/
def Press.cured (cell : RoundingMode) (recipe : Option Recipe) (now : Clock) (x : Press) : Press :=
  if x.state.isClosed then
    match x.context, recipe with
    | some c, some r => x.cureStep cell r now c
    | _, _ => x
  else x

end Parts

end Sys2Proof.Machine

/-! SUPPORT. The press scan keeps the laws of the presses (R43). -/

namespace Sys2Proof.Machine

section Moves

variable {heat : HeatState} {recipe : Option Recipe} {x : Press}

/-- A press holds another context with the serial and the fields it had. -/
theorem PressMove.setContext {c d : CycleContext} (context : x.context = some c) (serial : d.panel.serial = c.panel.serial)
    (fits : c.fits x.state → d.fits x.state) : PressMove heat recipe x { x with context := some d } where
  setup := rfl
  forced := id
  duty _ := id
  setpoint := id
  waits := .rfl
  held := .rfl
  serial := by simp [Press.serial, context, serial]
  place k := ⟨k.setup, k.window, k.stroke⟩
  context := fun ⟨present, fit⟩ =>
    ⟨by simpa [context] using present, fun e he => by cases he; exact fits (fit c context)⟩

/-- The panel's record may change but for its serial and the fields a press state asks. -/
theorem ContextMove.onPanel {f : PanelRecord → PanelRecord} (serial : ∀ r, (f r).serial = r.serial)
    (close : ∀ r, (f r).closeTime = r.closeTime) (open_ : ∀ r, (f r).openTime = r.openTime)
    (acc : ∀ r, (f r).accumulatorAtOpen = r.accumulatorAtOpen) (steps : ∀ r, (f r).stepCountAtOpen = r.stepCountAtOpen)
    (commit : ∀ r, (f r).commitTime = r.commitTime) : ContextMove (CycleContext.onPanel f) := fun c => by
  refine ⟨serial _, fun st => ?_⟩
  cases st <;>
    simp only [CycleContext.fits, CycleContext.onPanel, close, open_, acc, steps, commit, imp_self]

/-- The setpoints and the segment may be anything before the setpoints are recomputed (R69). -/
theorem PressMove.resetSegment {segment : Nat} {frozen : Bool} (x : Press) : PressMove heat recipe x
    ({ x with segment := segment, frozen := frozen }.withSetpoints recipe heat) :=
  ⟨⟨rfl, id, fun _ => id, fun _ => Press.withSetpoints_ok _ _ _⟩, .rfl, .rfl, rfl,
    fun k => ⟨k.setup, k.window, k.stroke⟩, id⟩

/-- The profile moves and the setpoints follow it (R69, R71, R72). -/
theorem PressMove.profiled (now : Clock) (x : Press) :
    PressMove heat recipe x ((x.profiled recipe now).withSetpoints recipe heat) := by
  have raise (y : Press) : PressMove heat recipe (y.withSetpoints recipe heat) (y.raiseSegment.withSetpoints recipe heat) :=
    .onContext (f := CycleContext.onPanel fun r => { r with segmentReached := max r.segmentReached y.segment })
      (.onPanel (fun _ => rfl) (fun _ => rfl) (fun _ => rfl) (fun _ => rfl) (fun _ => rfl) fun _ => rfl) _
  have still : PressMove heat recipe x (x.withSetpoints recipe heat) := .resetSegment (segment := x.segment) (frozen := x.frozen) x
  unfold Press.profiled
  split
  · split
    next r close _ _ =>
      refine .trans ?_ (raise _)
      unfold Press.moveProfile
      split
      · exact still
      · exact .resetSegment x
    next => exact still
  · exact still

/-- Readiness, its run and the change flags are read by no law. -/
theorem PressMove.setReady (ready : Bool) (run : Nat) (changes : ChangeFlags) (x : Press) :
    PressMove heat recipe x { x with ready := ready, run := run, changes := changes } :=
  .of_sameMarks ⟨rfl, rfl, rfl, rfl, rfl, rfl, rfl, rfl, rfl⟩

theorem PressMove.turned (x : Press) : PressMove heat recipe x x.turned := by
  unfold Press.turned
  split
  · have fell := PressMove.setReady (heat := heat) (recipe := recipe) false 0 { x.changes with readyFell := true } x
    exact .ite (fun _ => fell.trans (.addFlag _ _)) fun _ => fell
  · exact .setReady true 0 _ x

theorem PressMove.judged (own : Option Recipe) (x : Press) : PressMove heat recipe x (x.judged own) := by
  unfold Press.judged
  split
  · exact .setReady false 0 x.changes x
  · exact .ite (fun _ => .ite (fun _ => .turned x) fun _ => .setReady x.ready (x.run + 1) x.changes x) fun _ =>
      .setReady x.ready 0 x.changes x

/-- A panel's deviation range is in no press state's demand (R80, R126). -/
theorem PressMove.tracked (x : Press) : PressMove heat recipe x x.tracked := by
  have track (l : List Int) : ContextMove (CycleContext.onPanel (PanelRecord.track l)) := by
    cases l with
    | nil => exact fun c => ⟨rfl, fun _ => id⟩
    | cons d rest => exact .onPanel (fun _ => rfl) (fun _ => rfl) (fun _ => rfl) (fun _ => rfl) (fun _ => rfl) fun _ => rfl
  exact .ite (fun _ => .onContext (track _) x) fun _ => .refl x

/-- The context that a cure step leaves has the panel it had but for its flags (R95). -/
theorem Press.curedContext_spec (cell : RoundingMode) (r : Recipe) (now : Clock) (c : CycleContext) (x : Press) :
    ∃ flags acc steps, x.curedContext cell r now c =
      { panel := { c.panel with flags := flags }, accumulator := some acc, stepCount := some steps } := by
  unfold Press.curedContext Press.accumulated
  split <;> exact ⟨_, _, _, rfl⟩

/-- A press whose demould decision falls due is in CURING (R97). -/
theorem Press.curing_of_cureDecision {cell : RoundingMode} {r : Recipe} {now : Clock} {c : CycleContext} {x : Press}
    (h : x.cureDecision cell r now c ≠ .noDecision) : x.state = .curing := by
  by_contra other
  exact h (if_neg other)

/-- A cure step keeps the laws of its press (R13, R83, R95). -/
theorem PressMove.cureStep {cell : RoundingMode} {r : Recipe} {now : Clock} {c : CycleContext} {x : Press}
    (context : x.context = some c) (closed : x.state.isClosed = true) :
    PressMove heat recipe x (x.cureStep cell r now c) := by
  have stepped : PressMove heat recipe x { x with
      context := some (x.curedContext cell r now c), lastStep := some (x.cureRecord cell r now c) } := by
    refine .trans (.setContext (d := x.curedContext cell r now c) context ?_ ?_)
      (.of_sameMarks ⟨rfl, rfl, rfl, rfl, rfl, rfl, rfl, rfl, rfl⟩)
    · obtain ⟨_, _, _, e⟩ := x.curedContext_spec cell r now c
      rw [e]
    · obtain ⟨_, _, _, e⟩ := x.curedContext_spec cell r now c
      rw [e]
      cases h : x.state <;> simp_all [PressState.isClosed, CycleContext.fits]
  have curing (h : x.cureDecision cell r now c ≠ .noDecision) : x.state = .curing := Press.curing_of_cureDecision h
  rw [Press.cureStep_eq]
  dsimp only
  split
  next e => exact stepped.trans (Advances.due (by exact curing (by simp [e]))).move
  next e => exact stepped.trans (Advances.due (by exact curing (by simp [e]))).move
  all_goals exact stepped

theorem PressMove.cured (cell : RoundingMode) (own : Option Recipe) (now : Clock) (x : Press) :
    PressMove heat recipe x (x.cured cell own now) := by
  unfold Press.cured
  split
  next closed =>
    split
    next c r hc => exact .cureStep hc closed
    next => exact .refl x
  next => exact .refl x

end Moves

/-! ## The parts of the scan -/

section Scan

variable (s : State) (p : PressId)

theorem State.deviationScan_eq : s.deviationScan p =
    if (s.press p).state.isClosed = true then s.modPress p Press.tracked else s := by
  unfold State.deviationScan
  split
  next closed => exact State.modPress_congr (by rw [Press.tracked, if_pos closed])
  next => rfl

theorem State.cureScan_spec : s.cureScan p = s.modPress p (Press.cured s.cell.rounding (s.recipeOf p) s.clock) ∨
    s.cureScan p = s ∧ (s.press p).cured s.cell.rounding (s.recipeOf p) s.clock = s.press p := by
  by_cases closed : (s.press p).state.isClosed = true
  · cases hc : (s.press p).context with
    | none => exact .inr ⟨by simp [State.cureScan, hc], by simp [Press.cured, hc]⟩
    | some c =>
      cases hr : s.recipeOf p with
      | none => exact .inr ⟨by simp [State.cureScan, hc, hr], by simp [Press.cured]⟩
      | some r =>
        refine .inl ?_
        have e : s.cureScan p = s.modPress p (Press.cureStep s.cell.rounding r s.clock c) := by
          simp [State.cureScan, closed, hc, hr]
        rw [e]
        exact State.modPress_congr (by simp [Press.cured, closed, hc])
  · exact .inr ⟨by simp [State.cureScan, closed], by simp [Press.cured, closed]⟩

theorem Keeps.readinessScan : Keeps s (s.readinessScan p) := by
  have judged : Keeps s (s.modPress p (Press.judged (s.recipeOf p))) := .modPress (.judged _ _)
  rw [State.readinessScan_eq s p _ rfl]
  refine .ite (fun turns => .ite (fun ready => .ite (fun waits => judged.trans (.withdraw ?_)) fun _ => judged) fun _ =>
    judged.trans (.evaluateAdmission _ p)) fun _ => judged
  have move : PressMove s.heat.state none (s.press p) ((s.press p).judged (s.recipeOf p)) := .judged _ _
  rw [State.modPress_press_self, Press.drive_state]
  exact move.waits.2 waits.1

theorem Keeps.deviationScan : Keeps s (s.deviationScan p) := by
  rw [State.deviationScan_eq]
  exact .ite (fun _ => .modPress (.tracked _)) fun _ => .refl s

theorem Keeps.cureScan : Keeps s (s.cureScan p) := by
  rcases s.cureScan_spec p with e | ⟨e, -⟩
  · rw [e]; exact .modPress (.cured _ _ _ _)
  · rw [e]; exact .refl s

theorem Keeps.pressScan : Keeps s (s.pressScan p) := by
  have profiled : Keeps s ((s.profileScan p).recomputeSetpoints p) := by
    rw [State.profileScan_recompute]
    exact .modPress (.profiled _ _)
  exact (((profiled.trans (.readinessScan _ p)).trans (.deviationScan _ p)).trans (.cureScan _ p)).trans
    (.evaluateAdmission _ p)

theorem Keeps.sampleZone (z : ZoneId) (v : ZoneSample) : Keeps s (s.sampleZone p z v) := by
  refine Keeps.settled ?_
  have sampled : Keeps s (s.modPress p (Press.zoneSample s.heat.state (s.recipeOf p) z (deliveredSample v))) :=
    .modPress (.zoneSample _ _ _)
  exact .ite (fun _ => sampled.trans (.pressScan _ p)) fun _ => sampled

end Scan

end Sys2Proof.Machine

/-! SUPPORT. The events and requests of the press sequencer, the zones and the heat permit unit keep the laws of the presses. -/

namespace Sys2Proof.Machine

section Sequencer

variable (s : State) (p : PressId)

/-! ## Entering service -/

/-- A press in OFFLINE with a setup enters HEATING and starts its windows with its zones cold (R6, R55, R56). -/
theorem PressMove.enable {heat : HeatState} {recipe : Option Recipe} {x : Press} {now : Clock} {window : Nat}
    (offline : x.state = .offline) (setup : x.setup ≠ none) :
    PressMove heat recipe x ((x.enter .heating).startWindow now window) where
  setup := rfl
  forced _ := fun _ => rfl
  duty _ k := by
    rw [Press.dutyOk_iff] at k ⊢
    intro z
    have cold : x.zones[z].Cold := (k z).cold (by simp [Press.heldOff, offline])
    have after := (Zone.DutyOk.mk (recipe := recipe) (held := true) (fun _ => cold) (k z).within (k z).sane).startWindow window
    have e : ((x.enter .heating).startWindow now window).zones[z] =
        { x.zones[z] with
          applied := x.zones[z].pending, heater := decide (0 < onTimeMs x.zones[z].pending window) } := by
      rw [Press.startWindow, Press.modZones_zone]
      rfl
    rw [e]
    exact ⟨fun _ => after.cold rfl, after.within, after.sane⟩
  setpoint := id
  waits := by simp [offline]
  held := by simp [offline]
  serial := rfl
  place k := ⟨fun _ => Option.isSome_iff_ne_none.2 setup, iff_of_true rfl (by simp [Press.startWindow]),
    iff_of_false (fun h => by simpa [offline] using k.stroke.1 h) (by simp [Press.startWindow])⟩
  context k := by
    have none := k.context_eq_none (by rw [offline]; rfl)
    exact .of_none none rfl

theorem Keeps.enablePress {s : State} {p : PressId} (offline : (s.press p).state = .offline)
    (setup : (s.press p).setup ≠ none) : Keeps s (s.enablePress p) :=
  (Keeps.modPress (.enable offline setup)).trans (.evaluateAdmission _ p)

/-! ## PRESS_ABORT -/

/-- A commit time is asked by no press state but COMMIT_HELD, in which no panel is stamped again (R21, R23). -/
theorem PressMove.stamp {heat : HeatState} {recipe : Option Recipe} {x : Press} (t : Clock) :
    PressMove heat recipe x (x.onContext (CycleContext.onPanel fun r => { r with commitTime := some t })) := by
  refine .onContext (f := CycleContext.onPanel fun r => { r with commitTime := some t }) (fun c => ⟨rfl, fun st => ?_⟩) x
  cases st
  case commitHeld => exact fun ⟨_, opened⟩ => ⟨rfl, opened⟩
  all_goals exact id

/-- A press stamps its context and offers it for commit (R21, R23). -/
theorem Keeps.stampAndOffer {s : State} {p : PressId} {f : Press → Press} (t : Clock)
    (offers : (s.press p).state = .chargeReady ∨ (s.press p).state = .unloadWait)
    (move : PressMove s.heat.state (s.recipeOf p) (s.press p) (f (s.press p)))
    (state : (f (s.press p)).state = (s.press p).state) :
    Keeps s ((s.modPress p fun x =>
      (f x).onContext (CycleContext.onPanel fun r => { r with commitTime := some t })).offerCommit p) := by
  refine .trans (.modPress (move.trans (.stamp t))) (.offerCommit ?_ ?_)
  · rw [State.modPress_press_self]
    simpa [state] using offers
  · intro c hc
    rw [State.modPress_press_self, Press.drive_context, Press.onContext_context, Option.map_eq_some_iff] at hc
    obtain ⟨d, -, rfl⟩ := hc
    rfl

theorem Keeps.abortPress {s t : State} {p : PressId} (h : s.abortPress p = some t) : Keeps s t := by
  have aborted (x : Press) : PressMove s.heat.state (s.recipeOf p) x (x.addFlag fun f => { f with aborted := true }) :=
    .addFlag _ x
  unfold State.abortPress at h
  dsimp only at h
  cases st : (s.press p).state <;> rw [st] at h <;> cases h
  case chargeWait => exact .withdraw st
  case chargeReady => exact .stampAndOffer s.clock (.inl st) (aborted _) rfl
  case curing => exact .modPress ((aborted _).trans (Advances.due (by exact st)).move)
  case ejectFault => exact .modPress ((aborted _).trans (Advances.unload (by exact st)).move)
  all_goals exact .modPress (aborted _)

/-! ## The ejector -/

theorem Keeps.endDelay : Keeps s (s.endDelay p) := by
  unfold State.endDelay
  split
  next _ ends stroke => exact Keeps.settled (.modPress (.setStroke (by rw [stroke]; rfl)))
  next => exact .refl s

theorem Keeps.endPulse : Keeps s (s.endPulse p) := by
  unfold State.endPulse
  split
  next ejecting _ => exact Keeps.settled (.modPress (Advances.endPulse _ ejecting).move)
  next => exact .refl s

/-! ## Accepted edges -/

theorem Keeps.closedRise (t : Clock) : Keeps s (s.closedRise p t) := by
  have captured : Keeps s (s.modPress p (Press.capture .closed true t)) := .modPress (.capture ..)
  unfold State.closedRise
  dsimp only
  split
  next ready =>
    rw [State.modPress_recompute (by simp [Press.close])]
    exact Keeps.settled (captured.trans (.modPress (Advances.close t ready).move))
  case h_9 | h_10 => exact Keeps.settled captured
  all_goals exact Keeps.settled (captured.trans (.modPress (.setChanges _ _)))

theorem Keeps.closedFall (t : Clock) : Keeps s (s.closedFall p t) := by
  have captured : Keeps s (s.modPress p (Press.capture .closed false t)) := .modPress (.capture ..)
  unfold State.closedFall
  dsimp only
  split
  case h_1 closed | h_2 closed =>
    rw [State.modPress_recompute (by simp [Press.openUp])]
    exact Keeps.settled (captured.trans (.modPress (Advances.openUp _ _ t (by rw [closed]; rfl)).move))
  all_goals exact Keeps.settled captured

theorem Keeps.contactRise (t : Clock) : Keeps s (s.contactRise p t) :=
  Keeps.settled (.modPress (.trans (.capture ..) (.recordContact t _)))

theorem Keeps.contactFall (t : Clock) : Keeps s (s.contactFall p t) := Keeps.settled (.modPress (.capture ..))

theorem Keeps.clearRise (t : Clock) : Keeps s (s.clearRise p t) := by
  have captured : Keeps s (s.modPress p (Press.capture .partClear true t)) := .modPress (.capture ..)
  unfold State.clearRise
  dsimp only
  split
  next unload => exact Keeps.settled (captured.trans (.stampAndOffer (f := id) t (.inr unload) (.refl _) rfl))
  next => exact Keeps.settled captured

theorem Keeps.clearFall (t : Clock) : Keeps s (s.clearFall p t) := Keeps.settled (.modPress (.capture ..))

theorem Keeps.deliverEdge (input : PressInput) (rise : Bool) (t : Clock) : Keeps s (s.deliverEdge p input rise t) := by
  cases input <;> cases rise
  · exact .closedFall s p t
  · exact .closedRise s p t
  · exact .contactFall s p t
  · exact .contactRise s p t
  · exact .clearFall s p t
  · exact .clearRise s p t

theorem Keeps.sampleInput (input : PressInput) (level : Bool) : Keeps s (s.sampleInput p input level) := by
  unfold State.sampleInput
  dsimp only
  split
  · exact .modPress (.setFilter ..)
  · exact (Keeps.modPress (.setFilter ..)).trans (.deliverEdge _ p input level _)

/-! ## Windows and on-times -/

theorem Keeps.startWindow : Keeps s (s.startWindow p) := by
  unfold State.startWindow
  split
  next running _ => exact .modPress (.startWindow (by rw [running]; rfl))
  next => exact .refl s

theorem Keeps.endOnTime (z : ZoneId) : Keeps s (s.endOnTime p z) := by
  unfold State.endOnTime
  split
  · exact .ite (fun _ => .modPress (.heaterOff z _)) fun _ => .refl s
  · exact .refl s

end Sequencer

/-! ## The heat permit unit -/

section Heat

variable (s : State)

theorem Keeps.markCycles (f : RecordFlags → RecordFlags) : Keeps s (s.markCycles f) :=
  .modAll fun _ => .ite (fun _ => .addFlag f _) fun _ => .refl _

/-- The heat permit unit's own count, lapse flag and countdown are read by none of these laws. -/
theorem Keeps.setHeat {h : HeatUnit} (state : h.state = s.heat.state) : Keeps s { s with heat := h } :=
  .quiet rfl rfl state rfl rfl

theorem Keeps.grantHeat (d : Nat) : Keeps s (s.grantHeat d) := by
  unfold State.grantHeat
  exact .trans (.setHeat s (h := { s.heat with
    remaining := d * Config.stepsPerSecond, lapse := false, nextStep := laterBy s.clock Config.countdownPeriod }) rfl)
    (.changeHeat _ .run)

theorem Keeps.standByHeat : Keeps s s.standByHeat := by
  unfold State.standByHeat
  exact .trans (.setHeat s (h := { s.heat with remaining := 0 }) rfl) (.changeHeat _ .standby)

theorem Keeps.turnHeatOff : Keeps s s.turnHeatOff := by
  unfold State.turnHeatOff
  exact .trans (.setHeat s (h := { s.heat with remaining := 0 }) rfl) (.trans (.markCycles _ _) (.changeHeat _ .off))

theorem Keeps.lapseHeat : Keeps s s.lapseHeat := by
  unfold State.lapseHeat
  exact .trans (.setHeat s (h := { s.heat with remaining := 0, lapse := true }) rfl)
    (.trans (.markCycles _ _) (Keeps.settled (.changeHeat _ .standby)))

theorem Keeps.expirePermit : Keeps s s.expirePermit := .ite (fun _ => .lapseHeat s) fun _ => .refl s

theorem Keeps.stepCountdown : Keeps s s.stepCountdown :=
  .ite (fun _ => .ite (fun _ => .lapseHeat s) fun _ => .setHeat s rfl) fun _ => .refl s

end Heat

end Sys2Proof.Machine

/-! SUPPORT. The structural checks of a recipe record against the ranges of R28, and what a record that passes is stored as. -/

namespace Sys2Proof.Machine

variable (w : RecipeWire)

/-- A range check, read as the range it tests. -/
theorem inRange_iff {low high v : Int} : inRange low high v = true ↔ low ≤ v ∧ v ≤ high := by
  simp [inRange]

/-- A check stands for a range: the same field, the same element, and it passes in the range alone. -/
def ChecksRange (check : Nat × Nat × Bool) (range : Nat × Nat × Prop) : Prop :=
  check.1 = range.1 ∧ check.2.1 = range.2.1 ∧ (check.2.2 = true ↔ range.2.2)

/-- The checks stand for the ranges of R28 in their order (R28, R29). -/
theorem recipeChecks_ranges : List.Forall₂ ChecksRange (recipeChecks w) (recipeRanges w) := by
  have zones : (List.finRange 8 : List (Fin 8)) = [0, 1, 2, 3, 4, 5, 6, 7] := by decide
  unfold recipeChecks recipeRanges
  rw [zones]
  simp only [List.map_cons, List.map_nil, List.cons_append, List.nil_append, List.forall₂_cons, List.forall₂_nil_left_iff,
    ChecksRange, Bool.and_eq_true, decide_eq_true_eq, inRange_iff, and_true, Config.massMax]
  simp [and_assoc]

/-- The first check that fails is the first range that a value leaves. -/
theorem find?_fails_of_first {checks : List (Nat × Nat × Bool)} {passed failed : List (Nat × Nat × Prop)}
    {field element : Nat} {range : Prop} (h : List.Forall₂ ChecksRange checks (passed ++ (field, element, range) :: failed))
    (before : ∀ c ∈ passed, c.2.2) (fails : ¬range) :
    checks.find? (fun c => !c.2.2) = some (field, element, false) := by
  induction passed generalizing checks with
  | nil =>
    obtain ⟨_, _, ⟨e1, e2, e3⟩, -, rfl⟩ := List.forall₂_cons_right_iff.1 h
    have no := mt e3.1 fails
    simp only [Bool.not_eq_true] at no
    rw [List.find?_cons_of_pos (by simp [no])]
    exact congrArg some (Prod.ext e1 (Prod.ext e2 no))
  | cons a rest ih =>
    obtain ⟨_, _, ⟨-, -, e3⟩, tail, rfl⟩ := List.forall₂_cons_right_iff.1 h
    rw [List.find?_cons_of_neg (by simp [e3.2 (before a (by simp))])]
    exact ih tail fun c hc => before c (by simp [hc])

/-- The field that refuses a record is that of the first range its value leaves (R29). -/
theorem failingField_of_first {passed failed : List (Nat × Nat × Prop)} {field element : Nat} {range : Prop}
    (h : recipeRanges w = passed ++ (field, element, range) :: failed) (before : ∀ c ∈ passed, c.2.2) (fails : ¬range) :
    failingField w = some (field, element) := by
  rw [failingField, find?_fails_of_first (h ▸ recipeChecks_ranges w) before fails]
  rfl

/-- Every check passes where every range holds. -/
theorem failingField_eq_none_iff : failingField w = none ↔ ∀ c ∈ recipeRanges w, c.2.2 := by
  have all {checks : List (Nat × Nat × Bool)} {ranges : List (Nat × Nat × Prop)} (h : List.Forall₂ ChecksRange checks ranges) :
      (∀ c ∈ checks, c.2.2 = true) ↔ ∀ c ∈ ranges, c.2.2 := by
    induction h with
    | nil => simp
    | cons head _ ih => simp only [List.forall_mem_cons, ih, head.2.2]
  rw [failingField, Option.map_eq_none_iff, List.find?_eq_none, ← all (recipeChecks_ranges w)]
  simp

theorem recipeRanges_iff : (∀ c ∈ recipeRanges w, c.2.2) ↔ WireInRange w := by
  have zones : (∀ k : Fin 8, w.durations[k].toNat ≤ 3600) ↔ w.durations[0].toNat ≤ 3600 ∧ w.durations[1].toNat ≤ 3600 ∧
      w.durations[2].toNat ≤ 3600 ∧ w.durations[3].toNat ≤ 3600 ∧ w.durations[4].toNat ≤ 3600 ∧
      w.durations[5].toNat ≤ 3600 ∧ w.durations[6].toNat ≤ 3600 ∧ w.durations[7].toNat ≤ 3600 := by
    simp [Fin.forall_fin_succ]
  rw [WireInRange, zones]
  simp only [recipeRanges, List.forall_mem_cons, List.not_mem_nil, false_imp_iff,
    implies_true, and_true, and_assoc]

theorem failingField_eq_none_iff_inRange : failingField w = none ↔ WireInRange w :=
  (failingField_eq_none_iff w).trans (recipeRanges_iff w)

/-- A record that passes the checks is stored with its values in the ranges of R28 (R27, R30). -/
theorem storedRecipe_inRanges {w : RecipeWire} (h : WireInRange w) : (storedRecipe w).inRanges := by
  obtain ⟨base, base', -, limit', le, -, window, window', -, -, ready, -, -, -, -, -, -, -, double, double', -, -, -, close,
    close', charge, -, -, -, charge', -, eject, -, rounding⟩ := h
  refine ⟨base, base', le, limit', le_max_left _ _, ?_, ?_, window, window', double, double', close, close', charge, charge',
    ready, eject, rounding⟩
  · exact max_le (by simp [storedRecipe]; omega) (min_le_right _ _)
  · have : (clampInt 0 1000 (w.maxDuty.toInt : Int)) ≤ 1000 := max_le (by omega) (min_le_right _ _)
    exact Int.toNat_le.2 this

end Sys2Proof.Machine

/-! SUPPORT. Every step keeps the laws of pins, presses, serials, platens and setpoints. -/

namespace Sys2Proof.Machine

/-! ## Power-on -/

/-- A press after power-on has nothing that a law could find amiss. -/
@[simp] theorem State.powerOn_press (strap : Bool) (p : PressId) : (State.powerOn strap).press p = Press.reset := by
  simp [State.powerOn, State.press]

@[simp] theorem State.powerOn_recipeOf (strap : Bool) (p : PressId) : (State.powerOn strap).recipeOf p = none := by
  simp [State.recipeOf, Press.reset]

theorem pinLaw_powerOn (strap : Bool) : PinLaw (State.powerOn strap) :=
  pinLaw_iff.2 fun p => by rw [State.powerOn_press]; exact ⟨rfl, nofun⟩

theorem serialLaw_powerOn (strap : Bool) : SerialLaw (State.powerOn strap) := by
  have none : liveSerials (State.powerOn strap) = [] := by
    simp only [liveSerials, openSerials_eq, State.powerOn_press]
    rfl
  refine ⟨?_, ?_, le_refl 1, (by decide : 1 ≤ 4294967295), nofun⟩
  · rw [none]; exact List.nodup_nil
  · rw [none]; exact fun n hn => absurd hn (by simp)

theorem setpointLaw_powerOn (strap : Bool) : SetpointLaw (State.powerOn strap) :=
  setpointLaw_iff.2 fun p z => by simp [Press.reset]

theorem cycleLaw_powerOn (strap : Bool) : CycleLaw (State.powerOn strap) := by
  refine ⟨setupLaw_iff.2 fun p => ?_, contextLaw_iff.2 fun p => ?_, ?_⟩
  · rw [State.powerOn_press]
    exact ⟨⟨fun h => absurd rfl h, iff_of_false nofun fun h => h rfl, iff_of_false nofun nofun⟩, nofun⟩
  · rw [State.powerOn_press]
    exact .of_none rfl rfl
  · have away (p : PressId) {st : PressState} (h : st ≠ .offline) : ((State.powerOn strap).press p).state ≠ st := by
      rw [State.powerOn_press]; exact h.symm
    exact ⟨fun p => iff_of_false List.not_mem_nil (away p nofun), List.nodup_nil,
      fun p => iff_of_false List.not_mem_nil (away p nofun), List.nodup_nil, Nat.zero_le _, fun h => absurd rfl h,
      fun p h => absurd h (away p nofun)⟩

theorem platenLaw_powerOn (strap : Bool) : PlatenLaw (State.powerOn strap) := by
  refine ⟨⟨fun n r h => ?_, fun p => ?_⟩, dutyLaw_iff.2 fun p z => ?_⟩
  · simp [State.powerOn] at h
  · rw [State.powerOn_press]
    exact ⟨fun h => absurd rfl h, nofun⟩
  · have zone : ((State.powerOn strap).press p).zones[z] = Zone.reset := by simp [Press.reset]
    rw [zone, State.powerOn_recipeOf]
    exact ⟨fun _ => ⟨rfl, rfl, rfl, rfl⟩, nofun, Nat.zero_le _, nofun⟩

/-- Power-on, whatever was before it. -/
theorem Keeps.powerOn (strap : Bool) (s : State) : Keeps s { State.powerOn strap with pending := s.pending } := by
  have on : Keeps s (State.powerOn strap) :=
    ⟨⟨fun _ => pinLaw_powerOn strap, fun _ => serialLaw_powerOn strap, fun _ => setpointLaw_powerOn strap,
      fun _ => (cycleLaw_iff.1 (cycleLaw_powerOn strap)).1, fun _ _ => platenLaw_powerOn strap⟩,
      fun _ _ => (cycleLaw_iff.1 (cycleLaw_powerOn strap)).2⟩
  exact on.trans (.quiet rfl rfl rfl rfl rfl)

/-! ## The requests -/

section Requests

variable (s : State)

/-- A request that names a press keeps what it keeps of each press it may name. -/
theorem Keeps.withPress {b : Byte} {act : PressId → State × Reply} (h : ∀ p, Keeps s (act p).1) :
    Keeps s (withPress b s act).1 := by
  unfold Machine.withPress
  split
  · exact .refl s
  · exact h _

/-- The attention controller and the scale's own fields are read by none of these laws. -/
theorem Keeps.setAttention (a : Attention) : Keeps s { s with attention := a } := .quiet rfl rfl rfl rfl rfl

theorem Keeps.setCell (c : CellSettings) : Keeps s { s with cell := c } := .quiet rfl rfl rfl rfl rfl

theorem Keeps.setLink (l : Link) : Keeps s { s with link := l } := .quiet rfl rfl rfl rfl rfl

/-- The next serial may be raised up to the last one (R135, R179). -/
theorem Keeps.raiseSerial {n : Nat} (above : s.history.nextSerial ≤ n) (last : n ≤ 4294967295) :
    Keeps s { s with history := { s.history with nextSerial := n } } where
  pins := id
  setpoints := id
  places := fun ⟨setups, contexts, q⟩ =>
    ⟨setups, contexts, q.waits, q.nodup, q.held, q.heldNodup, q.capacity, q.run⟩
  platens _ := id
  full _ := id
  serials := fun ⟨nodup, assigned, start, _, exhausted⟩ => by
    refine ⟨nodup, fun k hk => ?_, start.trans above, last, fun e => ?_⟩
    · obtain ⟨one, below | ⟨eq, e⟩⟩ := assigned k hk
      · exact ⟨one, .inl (lt_of_lt_of_le below above)⟩
      · have top : n = s.history.nextSerial := by
          have := exhausted e
          omega
        exact ⟨one, .inr ⟨eq.trans top.symm, e⟩⟩
    · have top : s.history.nextSerial = 4294967295 := exhausted e
      exact (show n = 4294967295 by omega)

theorem Keeps.serveCellSet (rounding filterTime : Byte) (serial : BitVec 32) :
    Keeps s (serveCellSet rounding filterTime serial s).1 := by
  unfold Machine.serveCellSet
  split
  · exact .refl s
  next passes =>
    have above : s.history.nextSerial ≤ if serial = 0 then s.history.nextSerial else serial.toNat := by
      split
      next => exact le_refl _
      next given =>
        by_contra below
        unfold failingCellField at passes
        split_ifs at passes with _ _ low
        exact low ⟨given, by omega⟩
    by_cases last : (if serial = 0 then s.history.nextSerial else serial.toNat) ≤ 4294967295
    · exact (Keeps.raiseSerial s above last).trans (.setCell _ _)
    · have keep : serial = 0 := by
        by_contra given
        rw [if_neg given] at last
        exact last (by have := serial.isLt; omega)
      subst keep
      exact .quiet rfl rfl rfl rfl rfl

theorem Keeps.serveRestart : Keeps s (serveRestart s).1 := by
  unfold Machine.serveRestart
  split
  · exact .refl s
  next closed =>
    refine .restart fun p => ?_
    rw [State.anyContext_iff, not_exists] at closed
    simpa using closed p

theorem Keeps.servePressSetup (press slot zones gating : Byte) : Keeps s (servePressSetup press slot zones gating s).1 := by
  refine .withPress s fun p => ?_
  split
  · exact .refl s
  next n _ =>
    split
    · exact .refl s
    next given =>
      split
      · exact .refl s
      next g _ =>
        split
        · exact .refl s
        next offline =>
          split
          · exact .refl s
          next r valid => exact Keeps.settled (.setUpPress (not_not.1 offline) valid given)

theorem Keeps.servePressEnable (press : Byte) : Keeps s (servePressEnable press s).1 := by
  refine .withPress s fun p => ?_
  split
  · exact .refl s
  next offline =>
    split
    · exact .refl s
    next setup => exact Keeps.settled (.enablePress (not_not.1 offline) setup)

theorem Keeps.servePressDisable (press : Byte) : Keeps s (servePressDisable press s).1 := by
  refine .withPress s fun p => ?_
  split
  next service => exact Keeps.settled (.disable service)
  next => exact .refl s

theorem Keeps.servePressAbort (press : Byte) : Keeps s (servePressAbort press s).1 := by
  refine .withPress s fun p => ?_
  split
  · exact .refl s
  next t h => exact Keeps.settled (.abortPress h)

/-- The panel's record after another pulse is asked for (R19). -/
def PanelRecord.retried (r : PanelRecord) : PanelRecord :=
  { r with retries := min Config.retriesMax (r.retries + 1), flags := { r.flags with ejectRetried := true } }

theorem Keeps.serveEjectRetry (press : Byte) : Keeps s (serveEjectRetry press s).1 := by
  refine .withPress s fun p => ?_
  split
  · exact .refl s
  next fault =>
    exact Keeps.settled (.modPress (Advances.retry (f := PanelRecord.retried) _ (not_not.1 fault) (fun _ => rfl)
      fun _ => id).move)

theorem Keeps.serveEjectForce (press level : Byte) : Keeps s (serveEjectForce press level s).1 := by
  refine .withPress s fun p => ?_
  split
  · exact .refl s
  next on _ =>
    split
    next allowed => exact Keeps.settled (.modPress (.force on allowed))
    next => exact .refl s

theorem Keeps.servePressStatus (press : Byte) : Keeps s (servePressStatus press s).1 :=
  .withPress s fun _ => .modPress (f := fun x => { x with changes := {} }) (.setChanges {} _)

theorem Keeps.serveRecipeWrite (slot : Byte) (recipe : RecipeWire) : Keeps s (serveRecipeWrite slot recipe s).1 := by
  unfold Machine.serveRecipeWrite
  split
  · exact .refl s
  next n _ =>
    split
    · exact .refl s
    next passes =>
      split
      · exact .refl s
      next free =>
        exact Keeps.settled (.storeRecipe (mt (s.slotInUse_iff n).2 free)
          (storedRecipe_inRanges ((failingField_eq_none_iff_inRange _).1 passes)))

theorem Keeps.serveRecipeRead (slot : Byte) : Keeps s (serveRecipeRead slot s).1 := by
  unfold Machine.serveRecipeRead
  split
  · exact .refl s
  · split <;> exact .refl s

theorem Keeps.serveRecipeClear (slot : Byte) : Keeps s (serveRecipeClear slot s).1 := by
  unfold Machine.serveRecipeClear
  split
  · exact .refl s
  next n _ =>
    split
    · exact .refl s
    next free =>
      split
      · exact .refl s
      next => exact Keeps.settled (.clearRecipe (mt (s.slotInUse_iff n).2 free))

theorem Keeps.serveZoneMode (press zone mode : Byte) (duty : BitVec 16) :
    Keeps s (serveZoneMode press zone mode duty s).1 := by
  refine .withPress s fun p => ?_
  split
  · exact .refl s
  next z _ =>
    split
    · exact .refl s
    next m _ => exact Keeps.settled (.modPress (.takeMode z m _ _))

theorem Keeps.serveHeatPermit (duration : BitVec 16) : Keeps s (serveHeatPermit duration s).1 :=
  Keeps.settled (.ite (fun _ => .standByHeat s) fun _ => .grantHeat s _)

theorem Keeps.serveHeatOff : Keeps s (serveHeatOff s).1 := Keeps.settled (.turnHeatOff s)

theorem Keeps.serveScaleSet (zero gain : BitVec 32) (band : BitVec 16) (qualify : Byte) (place empty tareLimit : BitVec 32) :
    Keeps s (serveScaleSet zero gain band qualify place empty tareLimit s).1 := by
  unfold Machine.serveScaleSet
  dsimp only
  split
  · exact .refl s
  · split
    · exact .refl s
    · exact Keeps.settled (.setScale s rfl)

theorem Keeps.serveScaleZero : Keeps s (serveScaleZero s).1 := by
  unfold Machine.serveScaleZero
  split
  · exact .refl s
  · exact Keeps.settled (.setScale s rfl)

theorem Keeps.serveHistoryRead (position : Byte) : Keeps s (serveHistoryRead position s).1 := by
  unfold Machine.serveHistoryRead
  split <;> exact .refl s

theorem Keeps.serveHistoryAck (serial : BitVec 32) : Keeps s (serveHistoryAck serial s).1 := by
  unfold Machine.serveHistoryAck
  split
  · exact .refl s
  · exact Keeps.settled (.acknowledge s _)

/-- The requests of the attention controller change nothing else. -/
def OnlyAttention (s t : State) : Prop := ∃ a, t = { s with attention := a }

theorem OnlyAttention.refl : OnlyAttention s s := ⟨s.attention, rfl⟩

theorem servePoll_onlyAttention : OnlyAttention s (servePoll s).1 := by
  unfold servePoll
  split
  · exact .refl s
  · exact ⟨_, rfl⟩

theorem serveEndService_onlyAttention (form level rotate : Byte) : OnlyAttention s (serveEndService form level rotate s).1 := by
  have nonSpecific (r : Bool) : OnlyAttention s (endNonSpecific r s).1 := by
    unfold endNonSpecific
    split
    · exact .refl s
    · exact ⟨_, rfl⟩
  unfold serveEndService
  split
  · exact .refl s
  · split
    · exact .refl s
    · exact nonSpecific _
  · split
    · exact .refl s
    · split
      · exact .refl s
      · exact ⟨_, rfl⟩

theorem serveSetLowest_onlyAttention (level : Byte) : OnlyAttention s (serveSetLowest level s).1 := by
  unfold serveSetLowest
  split
  · exact .refl s
  · exact ⟨_, rfl⟩

theorem serveAttnSetup_onlyAttention (mask edge : BitVec 16) (nesting autoEnd rotate : Byte) :
    OnlyAttention s (serveAttnSetup mask edge nesting autoEnd rotate s).1 := by
  unfold serveAttnSetup
  split
  case h_6 => exact ⟨_, rfl⟩
  all_goals exact .refl s

variable {s} in
theorem OnlyAttention.keeps {t : State} (h : OnlyAttention s t) : Keeps s t := by
  obtain ⟨a, rfl⟩ := h
  exact .setAttention s a

/-- Whatever a request's owner does keeps the laws (R175). -/
theorem Keeps.serve (c : Instr) : Keeps s (serve c s).1 := by
  cases c
  case cellSet rounding filterTime serial => exact .serveCellSet s rounding filterTime serial
  case restart => exact .serveRestart s
  case pressSetup press slot zones gating => exact .servePressSetup s press slot zones gating
  case pressEnable press => exact .servePressEnable s press
  case pressDisable press => exact .servePressDisable s press
  case pressAbort press => exact .servePressAbort s press
  case ejectRetry press => exact .serveEjectRetry s press
  case ejectForce press level => exact .serveEjectForce s press level
  case pressStatus press => exact .servePressStatus s press
  case recipeWrite slot recipe => exact .serveRecipeWrite s slot recipe
  case recipeRead slot => exact .serveRecipeRead s slot
  case recipeClear slot => exact .serveRecipeClear s slot
  case zoneMode press zone mode duty => exact .serveZoneMode s press zone mode duty
  case zoneStatus press => exact .withPress s fun _ => .refl s
  case heatPermit duration => exact .serveHeatPermit s duration
  case heatOff => exact .serveHeatOff s
  case cureStatus press => exact .withPress s fun _ => .refl s
  case scaleSet zero gain band qualify place empty tareLimit =>
    exact .serveScaleSet s zero gain band qualify place empty tareLimit
  case scaleZero => exact .serveScaleZero s
  case historyRead position => exact .serveHistoryRead s position
  case historyAck serial => exact .serveHistoryAck s serial
  case poll => exact (servePoll_onlyAttention s).keeps
  case endService form level rotate => exact (serveEndService_onlyAttention s form level rotate).keeps
  case setLowest level => exact (serveSetLowest_onlyAttention s level).keeps
  case attnSetup mask edge nesting autoEnd rotate =>
    exact (serveAttnSetup_onlyAttention s mask edge nesting autoEnd rotate).keeps
  all_goals exact .refl s

end Requests

end Sys2Proof.Machine

/-! SUPPORT. The link, the timed events and the step keep the laws of pins, presses, serials, platens and setpoints, and with
that the obligations on them. -/

namespace Sys2Proof.Machine

section Link

variable (s : State)

/-! ## The link -/

theorem Keeps.answer (e : Entry) : Keeps s (answer e s).1 := by
  rcases answer_spec e s with h | ⟨c, h⟩
  · rw [h]; exact .refl s
  · rw [h]; exact .serve s c

theorem Keeps.arrive {e : Entry} {act : State → State × Reply} (h : Keeps s (act s).1) : Keeps s (s.arrive e act) := by
  rcases s.arrive_spec e act with ⟨-, k⟩ | ⟨-, -, k⟩ | ⟨-, -, k⟩
  · rw [k]; exact h.trans (.putInHand _ _ _)
  · rw [k]; exact .setLink s _
  · rw [k]; exact .setLink s _

theorem Keeps.newEntry (e : Entry) : Keeps s (s.newEntry e) := .arrive s (.answer s e)

theorem Keeps.endReply : Keeps s s.endReply := by
  unfold State.endReply
  split
  · exact .refl s
  · exact .setLink s _
  next h e _ _ =>
    exact ((Keeps.setLink s { s.link with hand := none, slot := none }).trans (.answer _ e)).trans (.putInHand _ _ _)

theorem Keeps.hunt : Keeps s s.hunt := .setLink s _

theorem Keeps.receive (b : Byte) : Keeps s (s.receive b) := by
  unfold State.receive
  dsimp only
  split
  · exact .ite (fun _ => .setLink s _) fun _ => .refl s
  · exact .ite (fun _ => .setLink s _) fun _ => (Keeps.hunt s).trans (.newEntry _ _)
  · exact .setLink s _
  · split
    · exact .setLink s _
    · exact (Keeps.hunt s).trans (.newEntry _ _)

theorem Keeps.expireGap : Keeps s s.expireGap := by
  unfold State.expireGap
  split
  · exact .refl s
  all_goals exact .hunt s

/-! ## The timed events -/

theorem Keeps.strokeTimer (p : PressId) : Keeps s (s.strokeTimer p) := by
  unfold State.strokeTimer
  split
  · exact .ite (fun _ => .endDelay s p) fun _ => .refl s
  · exact .ite (fun _ => .endPulse s p) fun _ => .refl s
  · exact .refl s

theorem Keeps.windowTimer (p : PressId) : Keeps s (s.windowTimer p) := by
  unfold State.windowTimer
  split
  · exact .ite (fun _ => .startWindow s p) fun _ => .refl s
  · exact .refl s

theorem Keeps.onTimeTimer (p : PressId) (z : ZoneId) : Keeps s (s.onTimeTimer p z) := by
  unfold State.onTimeTimer
  split
  · exact .ite (fun _ => .endOnTime s p z) fun _ => .refl s
  · exact .refl s

/-- Events taken one after another keep the laws that each keeps. -/
theorem Keeps.foldl {α : Type} {act : State → α → State} (h : ∀ s a, Keeps s (act s a)) (l : List α) :
    Keeps s (l.foldl act s) := by
  induction l generalizing s with
  | nil => exact .refl s
  | cons a rest ih => exact (h s a).trans (ih _)

/-- The stages of a millisecond's timed events: the reply end, the gap timer, the strokes, the windows, the on-times and the
countdown (log 4). -/
def State.replyTaken : State := if s.replyDue then s.endReply else s

def State.gapTaken : State := if s.gapDue then s.expireGap else s

def State.strokesTaken : State := allPresses.foldl State.strokeTimer s

def State.windowsTaken : State := allPresses.foldl State.windowTimer s

def State.onTimesTaken : State := allPresses.foldl (fun s p => allZones.foldl (State.onTimeTimer p) s) s

def State.countdownTaken : State := if s.countdownDue then s.stepCountdown else s

theorem State.runTimers_eq :
    s.runTimers = s.replyTaken.gapTaken.strokesTaken.windowsTaken.onTimesTaken.countdownTaken := rfl

theorem Keeps.runTimers : Keeps s s.runTimers := by
  have reply : Keeps s s.replyTaken := .ite (fun _ => .endReply s) fun _ => .refl s
  have gap (s : State) : Keeps s s.gapTaken := .ite (fun _ => .expireGap s) fun _ => .refl s
  have strokes (s : State) : Keeps s s.strokesTaken := .foldl s .strokeTimer _
  have windows (s : State) : Keeps s s.windowsTaken := .foldl s .windowTimer _
  have onTimes (s : State) : Keeps s s.onTimesTaken := .foldl s (fun s p => .foldl s (fun s z => .onTimeTimer s p z) _) _
  have countdown (s : State) : Keeps s s.countdownTaken := .ite (fun _ => .stepCountdown s) fun _ => .refl s
  rw [State.runTimers_eq]
  exact reply.trans ((gap _).trans ((strokes _).trans ((windows _).trans ((onTimes _).trans (countdown _)))))

theorem Keeps.advance : Keeps s s.advance := .quiet rfl rfl rfl rfl rfl

theorem Keeps.tick : Keeps s s.tick := by
  rw [State.tick]
  exact (Keeps.runTimers s).trans (.advance _)

/-! ## The step -/

theorem Keeps.event (c : Instr) : Keeps s (s.event c) := by
  cases c
  case powerOn strap => exact .powerOn strap s
  case byteReceived value => exact .receive s value
  case gapTimerExpiry => exact .expireGap s
  case replyEnd => exact .endReply s
  case closedRise p t => exact .closedRise s p t
  case closedFall p t => exact .closedFall s p t
  case ejectContactRise p t => exact .contactRise s p t
  case ejectContactFall p t => exact .contactFall s p t
  case partClearRise p t => exact .clearRise s p t
  case partClearFall p t => exact .clearFall s p t
  case delayEnd p => exact .endDelay s p
  case pulseEnd p => exact .endPulse s p
  case zoneSample p z v => exact .sampleZone s p z v
  case windowStart p => exact .startWindow s p
  case onTimeEnd p z => exact .endOnTime s p z
  case loadCellSample v => exact .sampleScale s v
  case permitLapse => exact .expirePermit s
  case pressInputSample p input level => exact .sampleInput s p input level
  case permitCountdownStep => exact .stepCountdown s
  all_goals exact .refl s

/-- Every command keeps the laws. -/
theorem Keeps.run (c : Instr) : Keeps s (s.run c) := .ite (fun _ => .arrive s (.serve s c)) fun _ => .event s c

theorem Keeps.step {t : State} (h : step s = .next t) : Keeps s t := by
  rcases step_spec h with ⟨-, rfl⟩ | ⟨c, rest, -, rfl⟩
  · exact .tick s
  · have taken : Keeps s { s with pending := rest } := .quiet rfl rfl rfl rfl rfl
    exact taken.trans (.run _ c)

end Link

end Sys2Proof.Machine

/-! ## The obligations -/

namespace Sys2Proof.Machine

/-- Settles O55: every event drives the pins of the presses it moves. -/
theorem pinsFollowTheStates : Obligations.PinsFollowTheStates := fun s _ law h => (Keeps.step s h).pins law

/-- Settles O57: every event moves presses by moves that keep their places, or between the queues that hold them. -/
theorem pressesKeepTheirPlaces : Obligations.PressesKeepTheirPlaces := fun s _ law h => (Keeps.step s h).cycle law

/-- Settles O58: a serial is handed over once, and goes from a context to its record. -/
theorem serialsStayUnique : Obligations.SerialsStayUnique := fun s _ law h => (Keeps.step s h).serials law

/-- Settles O59: the moves of a press and its zones keep duties within the recipe, and recompute the setpoints where recipe,
heat state or segment change. -/
theorem platensStayWithinTheRecipe : Obligations.PlatensStayWithinTheRecipe := by
  unfold Obligations.PlatensStayWithinTheRecipe
  exact ⟨fun s _ cycle law h => (Keeps.step s h).platens (cycleLaw_iff.1 cycle).1 law,
    fun s _ law h => (Keeps.step s h).setpoints law⟩

end Sys2Proof.Machine

/-! SUPPORT. The blocks each operation of the part changes, the scale's queue apart from the scale itself. -/

namespace Sys2Proof.Machine

/-! ## Frames -/

section Frames

variable {blocks more : List Block} {s t v : State}

theorem OnlyChanges.refl (s : State) : OnlyChanges blocks s s :=
  ⟨rfl, fun b _ => by cases b with | clock => exact ⟨rfl, rfl, rfl⟩ | _ => rfl⟩

theorem State.keeps_trans {b : Block} (h : s.keeps t b) (k : t.keeps v b) : s.keeps v b := by
  cases b
  case clock =>
    obtain ⟨a, b, c⟩ := h
    obtain ⟨d, e, f⟩ := k
    exact ⟨d.trans a, e.trans b, f.trans c⟩
  all_goals exact k.trans h

theorem OnlyChanges.trans (h : OnlyChanges blocks s t) (k : OnlyChanges blocks t v) : OnlyChanges blocks s v :=
  ⟨k.1.trans h.1, fun b hb => State.keeps_trans (h.2 b hb) (k.2 b hb)⟩

theorem OnlyChanges.mono (h : OnlyChanges blocks s t) (sub : blocks ⊆ more) : OnlyChanges more s t :=
  ⟨h.1, fun b hb => h.2 b fun hm => hb (sub hm)⟩

/-- An event changes no block but those named, and of the scale at most its queue. -/
structure Sparing (blocks : List Block) (s t : State) : Prop where
  only : OnlyChanges blocks s t
  gauge : ∃ queue, t.scale = { s.scale with queue := queue }

theorem Sparing.refl (s : State) : Sparing blocks s s := ⟨.refl s, _, rfl⟩

theorem Sparing.trans (h : Sparing blocks s t) (k : Sparing blocks t v) : Sparing blocks s v := by
  obtain ⟨only, queue, e⟩ := h
  obtain ⟨only', queue', e'⟩ := k
  exact ⟨only.trans only', queue', by rw [e', e]⟩

theorem Sparing.mono (h : Sparing blocks s t) (sub : blocks ⊆ more) : Sparing more s t := ⟨h.only.mono sub, h.gauge⟩

theorem Sparing.ite {c : Prop} [Decidable c] (h : c → Sparing blocks s t) (k : ¬c → Sparing blocks s v) :
    Sparing blocks s (if c then t else v) := by
  split
  · exact h ‹_›
  · exact k ‹_›

/-- Events taken one after another. -/
theorem Sparing.foldl {α : Type} {act : State → α → State} (h : ∀ s a, Sparing blocks s (act s a)) (l : List α) (s : State) :
    Sparing blocks s (l.foldl act s) := by
  induction l generalizing s with
  | nil => exact .refl s
  | cons a rest ih => exact (h s a).trans (ih _)

end Frames

/-! ## The shared operations -/

section Operations

variable (s : State) (p : PressId)

theorem OnlyChanges.seat (x : Press) (queue : List PressId) : OnlyChanges [.presses, .scale] s (s.seat p x queue) :=
  ⟨rfl, fun b hb => by cases b <;> simp_all [State.keeps, State.seat]⟩

theorem OnlyChanges.modPress (f : Press → Press) : OnlyChanges [.presses] s (s.modPress p f) :=
  ⟨rfl, fun b hb => by cases b <;> simp_all [State.keeps]⟩

theorem OnlyPress.seat (x : Press) (queue : List PressId) : OnlyPress p s (s.seat p x queue) :=
  fun _ h => s.seat_press_ne p x queue h

theorem OnlyPress.modPress (f : Press → Press) : OnlyPress p s (s.modPress p f) :=
  fun q h => s.modPress_press_ne p q f h

theorem Sparing.modPress (f : Press → Press) : Sparing [.presses] s (s.modPress p f) := ⟨.modPress s p f, _, rfl⟩

theorem Sparing.modAll (f : PressId → Press → Press) : Sparing [.presses] s (s.modAll f) :=
  ⟨⟨rfl, fun b hb => by cases b <;> simp_all [State.keeps]⟩, _, rfl⟩

theorem Sparing.leaveQueue : Sparing [.scale] s (s.leaveQueue p) :=
  ⟨⟨rfl, fun b hb => by cases b <;> simp_all [State.keeps]⟩, _, rfl⟩

/-- A change of presses, as part of an event on presses and queue. -/
theorem Sparing.placing (f : Press → Press) : Sparing [.presses, .scale] s (s.modPress p f) :=
  (Sparing.modPress s p f).mono (by simp)

theorem Sparing.evaluateAdmission : Sparing [.presses, .scale] s (s.evaluateAdmission p) := by
  rcases s.evaluateAdmission_spec p with ⟨-, -, e⟩ | ⟨-, e⟩
  · rw [e]
    exact ⟨⟨rfl, fun b hb => by cases b <;> simp_all [State.keeps]⟩, _, rfl⟩
  · rw [e]; exact .refl s

theorem Sparing.enterHeating : Sparing [.presses, .scale] s (s.enterHeating p) :=
  (Sparing.placing s p _).trans (.evaluateAdmission _ p)

theorem Sparing.withdraw : Sparing [.presses, .scale] s (s.withdraw p) :=
  ((Sparing.leaveQueue s p).mono (by simp)).trans (.enterHeating _ p)

theorem Sparing.takeRecord (c : CycleContext) : Sparing [.presses, .scale, .history] s (s.takeRecord p c) := by
  have recorded : Sparing [.presses, .scale, .history] s
      { s with history := { s.history with records := s.history.records ++ [c.record] } } :=
    ⟨⟨rfl, fun b hb => by cases b <;> simp_all [State.keeps]⟩, _, rfl⟩
  exact (recorded.trans ((Sparing.modPress _ p _).mono (by simp))).trans ((Sparing.enterHeating _ p).mono (by simp))

theorem Sparing.offerCommit : Sparing [.presses, .scale, .history] s (s.offerCommit p) := by
  rcases s.offerCommit_spec p with ⟨-, e⟩ | ⟨c, -, -, e⟩ | ⟨c, -, -, e⟩
  · rw [e]; exact .refl s
  · rw [e]; exact .takeRecord s p c
  · rw [e]
    exact ⟨⟨rfl, fun b hb => by cases b <;> simp_all [State.keeps]⟩, _, rfl⟩

theorem Sparing.abortPress {t : State} (h : s.abortPress p = some t) : Sparing [.presses, .scale, .history] s t := by
  have moved (f : Press → Press) : Sparing [.presses, .scale, .history] s (s.modPress p f) :=
    (Sparing.modPress s p f).mono (by simp)
  unfold State.abortPress at h
  dsimp only at h
  split at h <;> cases h
  · exact (Sparing.withdraw s p).mono (by simp)
  · exact (moved _).trans (.offerCommit _ p)
  all_goals exact moved _

theorem Sparing.recomputeSetpoints : Sparing [.presses] s (s.recomputeSetpoints p) := .modPress s p _

theorem Sparing.enablePress : Sparing [.presses, .scale] s (s.enablePress p) :=
  (Sparing.placing s p _).trans (.evaluateAdmission _ p)

/-! ## The press scan -/

theorem Sparing.readinessScan : Sparing [.presses, .scale] s (s.readinessScan p) := by
  rw [State.readinessScan_eq s p _ rfl]
  have judged := Sparing.placing s p (Press.judged (s.recipeOf p))
  exact .ite (fun _ => .ite (fun _ => .ite (fun _ => judged.trans (.withdraw _ p)) fun _ => judged)
    fun _ => judged.trans (.evaluateAdmission _ p)) fun _ => judged

theorem Sparing.pressScan : Sparing [.presses, .scale] s (s.pressScan p) := by
  have profiled : Sparing [.presses, .scale] s ((s.profileScan p).recomputeSetpoints p) := by
    rw [State.profileScan_recompute]
    exact .placing s p _
  have tracked (s : State) : Sparing [.presses, .scale] s (s.deviationScan p) := by
    rw [State.deviationScan_eq]
    exact .ite (fun _ => .placing s p _) fun _ => .refl s
  have cured (s : State) : Sparing [.presses, .scale] s (s.cureScan p) := by
    rcases s.cureScan_spec p with e | ⟨e, -⟩
    · rw [e]; exact .placing s p _
    · rw [e]; exact .refl s
  exact (((profiled.trans (.readinessScan _ p)).trans (tracked _)).trans (cured _)).trans (.evaluateAdmission _ p)

/-! ## Recipes and history -/

theorem Sparing.storeRecipe (n : SlotId) (r : Recipe) : Sparing [.presses, .recipes] s (s.storeRecipe n r) :=
  ⟨⟨rfl, fun b hb => by cases b <;> simp_all [State.keeps, State.storeRecipe]⟩, _, rfl⟩

theorem Sparing.clearRecipe (n : SlotId) : Sparing [.presses, .recipes] s (s.clearRecipe n) :=
  ⟨⟨rfl, fun b hb => by cases b <;> simp_all [State.keeps, State.clearRecipe]⟩, _, rfl⟩

theorem Sparing.releaseHead (rest : List PressId) : Sparing [.presses, .scale, .history] s (s.releaseHead p rest) := by
  have off : Sparing [.presses, .scale, .history] s { s with history := { s.history with waitList := rest } } :=
    ⟨⟨rfl, fun b hb => by cases b <;> simp_all [State.keeps]⟩, _, rfl⟩
  unfold State.releaseHead
  dsimp only
  split
  · exact off.trans (.takeRecord _ p _)
  · exact off

theorem Sparing.releaseHeld (l : List PressId) : Sparing [.presses, .scale, .history] s (s.releaseHeld l) := by
  induction l generalizing s with
  | nil => exact .refl s
  | cons p rest ih =>
    unfold State.releaseHeld
    exact .ite (fun _ => (Sparing.releaseHead s p rest).trans (ih _)) fun _ => .refl s

theorem Sparing.acknowledge (j : Nat) : Sparing [.presses, .scale, .history] s (s.acknowledge j) := by
  have dropped : Sparing [.presses, .scale, .history] s
      { s with history := { s.history with records := s.history.records.drop (j + 1) } } :=
    ⟨⟨rfl, fun b hb => by cases b <;> simp_all [State.keeps]⟩, _, rfl⟩
  exact dropped.trans (.releaseHeld _ _)

/-! ## The heat state -/

theorem Sparing.inHeat (heat : HeatState) : Sparing [.heat] s (s.inHeat heat) :=
  ⟨⟨rfl, fun b hb => by cases b <;> simp_all [State.keeps, State.inHeat]⟩, _, rfl⟩

theorem Sparing.placed (P : PressId → Press) (queue : List PressId) : Sparing [.presses, .scale] s (s.placed P queue) :=
  ⟨⟨rfl, fun b hb => by cases b <;> simp_all [State.keeps, State.placed]⟩, _, rfl⟩

/-- A change of heat state moves the presses and the scale queue in the new heat state (R66). -/
theorem State.changeHeat_spec (new : HeatState) : Sparing [.presses, .scale] (s.inHeat new) (s.changeHeat new) := by
  by_cases same : s.heat.state = new
  · have e : s.changeHeat new = s.inHeat new := by
      subst same
      exact s.changeHeat_same
    rw [e]; exact .refl _
  · by_cases run : new = .run
    · subst run
      rw [State.changeHeat_run s same]
      exact (Sparing.placed _ _ _).trans (.foldl .evaluateAdmission _ _)
    · rw [State.changeHeat_cold s same run]
      exact .placed _ _ _

theorem Sparing.changeHeat (new : HeatState) : Sparing [.presses, .heat, .scale] s (s.changeHeat new) :=
  ((Sparing.inHeat s new).mono (by simp)).trans ((s.changeHeat_spec new).mono (by simp))

@[simp] theorem State.changeHeat_heat (new : HeatState) : (s.changeHeat new).heat = { s.heat with state := new } :=
  (s.changeHeat_spec new).only.2 .heat (by decide)

end Operations

end Sys2Proof.Machine

/-! SUPPORT. The laws of the attention controller, the heat permit unit and the scale, and the operations that keep them. -/

namespace Sys2Proof.Machine

/-! ## The law of the attention controller -/

/-- A level's request and armed flag follow its condition as its trigger mode gives (R145, R146). -/
structure Level.Ok (k : Level) : Prop where
  level : k.edge = false → k.request = k.condition ∧ k.armed = true
  edge : k.edge = true → k.armed = !k.condition

section Levels

variable {k : Level}

theorem Level.Ok.handOn (h : k.Ok) (condition : Bool) : (k.handOn condition).Ok := by
  obtain ⟨level, edge⟩ := h
  unfold Level.handOn
  cases he : k.edge with
  | false => exact ⟨fun _ => ⟨rfl, (level he).2⟩, fun e => by simp at e⟩
  | true =>
    have armed := edge he
    cases hc : k.condition <;> cases condition <;>
      exact ⟨fun e => by simp [he] at e, fun _ => by simp [armed, hc]⟩

theorem Level.Ok.setEdge (h : k.Ok) (edge : Bool) : (k.setEdge edge).Ok := by
  unfold Level.setEdge
  split
  · exact h
  · split
    · exact ⟨nofun, fun _ => rfl⟩
    · exact ⟨fun _ => ⟨rfl, rfl⟩, nofun⟩

theorem Level.Ok.setMasked (h : k.Ok) (masked : Bool) : Level.Ok { k with masked := masked } := ⟨h.level, h.edge⟩

theorem Level.Ok.setInService (h : k.Ok) (inService : Bool) : Level.Ok { k with inService := inService } := ⟨h.level, h.edge⟩

theorem Level.Ok.grant (h : k.Ok) (autoEnd : Bool) : (k.grant autoEnd).Ok := by
  unfold Level.grant
  exact ⟨fun e => by rw [show k.edge = false from e]; exact h.level e, h.edge⟩

end Levels

/-- The levels of a controller hold the conditions they are given, with request and armed as the trigger mode gives. -/
def Attention.Holds (a : Attention) (condition : LevelId → Bool) : Prop :=
  ∀ l : LevelId, a.levels[l].condition = condition l ∧ a.levels[l].Ok

section Attention

variable {s t : State}

theorem attentionLaw_iff : AttentionLaw s ↔ s.attention.Holds s.condition ∧
    (s.attention.attn = true ↔ ∃ l, s.attention.presentable l = true) :=
  ⟨fun ⟨a, b, c, d⟩ => ⟨fun l => ⟨a l, b l, c l⟩, d⟩,
    fun ⟨h, d⟩ => ⟨fun l => (h l).1, fun l => (h l).2.level, fun l => (h l).2.edge, d⟩⟩

/-- The end of an event meets the law where every level is as its trigger mode gives (R141, R145, R146, R152). -/
theorem attentionLaw_settle (ok : ∀ l : LevelId, s.attention.levels[l].Ok) : AttentionLaw s.settle := by
  refine attentionLaw_iff.2 ⟨fun l => ?_, Attention.judge_attn _⟩
  rw [State.settle_level, State.settle_condition]
  exact ⟨Level.handOn_condition _ _, (ok l).handOn _⟩

/-- The end of an event that has not touched the controller. -/
theorem AttentionLaw.settled (h : AttentionLaw s) (attention : t.attention = s.attention) : AttentionLaw t.settle :=
  attentionLaw_settle fun l => by rw [attention]; exact ((attentionLaw_iff.1 h).1 l).2

/-- An event that touches neither the controller nor a condition. -/
theorem AttentionLaw.congr (h : AttentionLaw s) (attention : t.attention = s.attention) (condition : t.condition = s.condition) :
    AttentionLaw t := by
  rw [attentionLaw_iff, attention, condition]
  exact attentionLaw_iff.1 h

/-- A request of the controller that keeps the conditions and judges ATTN. -/
theorem AttentionLaw.setAttention {a : Attention} (h : AttentionLaw s) (held : ∀ condition, s.attention.Holds condition →
      a.Holds condition) : AttentionLaw { s with attention := a.judge } :=
  attentionLaw_iff.2 ⟨held _ (attentionLaw_iff.1 h).1, Attention.judge_attn _⟩

/-- One level changed, its condition kept. -/
theorem Attention.Holds.onLevel {a : Attention} {condition : LevelId → Bool} (h : a.Holds condition) (l : LevelId)
    {f : Level → Level} (same : ∀ k, (f k).condition = k.condition) (ok : ∀ k : Level, k.Ok → (f k).Ok) :
    (a.onLevel l f).Holds condition := by
  intro m
  by_cases e : m = l
  · subst e
    rw [Attention.onLevel_level_self, same]
    exact ⟨(h m).1, ok _ (h m).2⟩
  · rw [Attention.onLevel_level_ne _ _ e]
    exact h m

end Attention

/-! ## The law of the scale -/

/-- A verdict is held exactly in REMOVE_WAIT, a fault gross exactly in TARE_FAULT, and the run has an anchor exactly while
its count, at most 255, is above 0 (R105, R108, R113). -/
structure Scale.Ok (c : Scale) : Prop where
  held : c.held.isSome ↔ c.state = .removeWait
  fault : c.faultGross.isSome ↔ c.state = .tareFault
  anchor : c.anchor.isSome ↔ 0 < c.count
  count : c.count ≤ 255

theorem scaleLaw_iff {s : State} : ScaleLaw s ↔ s.scale.Ok :=
  ⟨fun ⟨a, b, c, d⟩ => ⟨a, b, c, d⟩, fun ⟨a, b, c, d⟩ => ⟨a, b, c, d⟩⟩

section Scale

variable {c : Scale} {gross : Int}

/-- The queue is not in the law of the scale. -/
theorem Scale.Ok.setQueue (h : c.Ok) (queue : List PressId) : Scale.Ok { c with queue := queue } :=
  ⟨h.held, h.fault, h.anchor, h.count⟩

/-- A restarted run, in whatever state the scale then is. -/
theorem Scale.Ok.restartRun (held : c.held.isSome ↔ c.state = .removeWait) (fault : c.faultGross.isSome ↔ c.state = .tareFault) :
    (c.restartRun gross).Ok := ⟨held, fault, iff_of_true rfl Nat.one_pos, (by decide : 1 ≤ 255)⟩

theorem Scale.Ok.clearRun (held : c.held.isSome ↔ c.state = .removeWait) (fault : c.faultGross.isSome ↔ c.state = .tareFault) :
    c.clearRun.Ok := ⟨held, fault, iff_of_false nofun (Nat.lt_irrefl 0), Nat.zero_le 255⟩

theorem Scale.Ok.updateRun (h : c.Ok) : (c.updateRun gross).Ok := by
  unfold Scale.updateRun
  split
  next a anchor =>
    split
    · refine ⟨h.held, h.fault, iff_of_true (by rw [anchor]; rfl) ?_, ?_⟩
      · exact Nat.lt_min.2 ⟨by decide, Nat.succ_pos _⟩
      · exact min_le_left _ _
    · exact .restartRun h.held h.fault
  next => exact .restartRun h.held h.fault

/-- Outside REMOVE_WAIT no verdict is held. -/
theorem Scale.Ok.held_eq_none (h : c.Ok) (state : c.state ≠ .removeWait) : c.held = none := by
  simpa using mt h.held.1 state

theorem Scale.Ok.fault_eq_none (h : c.Ok) (state : c.state ≠ .tareFault) : c.faultGross = none := by
  simpa using mt h.fault.1 state

theorem Scale.Ok.toLoading (h : c.Ok) (wait : c.state ≠ .removeWait) (fault : c.state ≠ .tareFault) (stale : Bool) :
    (c.toLoading stale gross).Ok :=
  .restartRun (by simp [h.held_eq_none wait]) (by simp [h.fault_eq_none fault])

theorem Scale.Ok.chargeLifted (h : c.Ok) (wait : c.state ≠ .removeWait) (fault : c.state ≠ .tareFault) :
    (c.chargeLifted gross).Ok :=
  .restartRun (by simp [h.held_eq_none wait]) (by simp [h.fault_eq_none fault])

theorem Scale.Ok.chargeRemoved (h : c.Ok) (fault : c.state ≠ .tareFault) : (c.chargeRemoved gross).Ok :=
  .restartRun (by simp) (by simp [h.fault_eq_none fault])

theorem Scale.Ok.autoZero (h : c.Ok) (wait : c.state ≠ .removeWait) (fault : c.state ≠ .tareFault) : (c.autoZero gross).Ok := by
  unfold Scale.autoZero
  split
  · exact ⟨by simp [h.held_eq_none wait], by simp [h.fault_eq_none fault], h.anchor, h.count⟩
  · exact ⟨by simp [h.held_eq_none wait], by simp, h.anchor, h.count⟩

theorem Scale.Ok.hold (h : c.Ok) (fault : c.state ≠ .tareFault) (v : VerdictRecord) : (c.hold v).Ok :=
  ⟨by simp [Scale.hold], by simp [Scale.hold, h.fault_eq_none fault], h.anchor, h.count⟩

end Scale

section Rules

variable {s : State}

theorem Scale.Ok.verdictEvent (h : s.scale.Ok) (fault : s.scale.state ≠ .tareFault) (mass : Int) :
    (s.verdictEvent mass).scale.Ok := by
  rcases s.verdictEvent_spec mass with ⟨v, e⟩ | ⟨p, rest, v, -, -, e⟩
  · rw [e]; exact h.hold fault v
  · rw [e]; exact (h.setQueue (s.scale.queue.filter (· ≠ p))).hold fault v

theorem Scale.Ok.rawRule (h : s.scale.Ok) (gross net : Int) (stable : Bool) : (s.rawRule gross net stable).scale.Ok := by
  unfold State.rawRule
  dsimp only
  split
  next st =>
    split
    · exact h.toLoading (by simp [st]) (by simp [st]) true
    · split
      · exact h.autoZero (by simp [st]) (by simp [st])
      · exact h
  next st =>
    split
    · exact h.toLoading (by simp [st]) (by simp [st]) false
    · exact h
  next st =>
    split
    · exact h.chargeLifted (by simp [st]) (by simp [st])
    · split
      · exact h.verdictEvent (by simp [st]) net
      · exact h
  next st =>
    split
    · exact h.chargeRemoved (by simp [st])
    · exact h
  · exact h

theorem Scale.Ok.sampleScale (h : s.scale.Ok) (sample : LoadSample) : (s.sampleScale sample).scale.Ok := by
  cases sample with
  | overload =>
    rw [State.sampleScale_overload, State.settle_scale]
    exact .clearRun h.held h.fault
  | raw v =>
    rw [State.sampleScale_raw, State.settle_scale]
    refine Scale.Ok.rawRule ?_ _ _ _
    exact Scale.Ok.updateRun ⟨h.held, h.fault, h.anchor, h.count⟩

end Rules

end Sys2Proof.Machine

/-! SUPPORT. What every event keeps of the clock, the link and the laws of the attention controller, the heat permit unit and
the scale. -/

namespace Sys2Proof.Machine

/-- The blocks an event other than those of the link and power-on may change. -/
def innerBlocks : List Block := [.cell, .presses, .recipes, .heat, .scale, .history, .attention]

/-- An event of the inner blocks: clock, link and waiting commands stay, and the laws of the attention controller, the heat
permit unit and the scale are kept. -/
structure Upkeep (s t : State) : Prop where
  frame : OnlyChanges innerBlocks s t
  attention : AttentionLaw s → AttentionLaw t
  permit : PermitLaw s → PermitLaw t
  scale : s.scale.Ok → t.scale.Ok

section Basics

variable {s t v : State}

theorem Upkeep.refl (s : State) : Upkeep s s := ⟨.refl s, id, id, id⟩

theorem Upkeep.trans (h : Upkeep s t) (k : Upkeep t v) : Upkeep s v :=
  ⟨h.frame.trans k.frame, k.attention ∘ h.attention, k.permit ∘ h.permit, k.scale ∘ h.scale⟩

theorem Upkeep.ite {c : Prop} [Decidable c] (h : c → Upkeep s t) (k : ¬c → Upkeep s v) : Upkeep s (if c then t else v) := by
  split
  · exact h ‹_›
  · exact k ‹_›

/-- An event that leaves the scale but for its queue, and its end. -/
theorem Sparing.upkeep {blocks : List Block} (h : Sparing blocks s t) (inner : blocks ⊆ innerBlocks := by decide)
    (attention : .attention ∉ blocks := by decide) (permit : PermitLaw s → PermitLaw t) : Upkeep s t.settle where
  frame := (h.only.mono inner).settle (by decide)
  attention k := k.settled (h.only.2 .attention attention)
  permit := permit
  scale k := by
    obtain ⟨-, queue, e⟩ := h
    rw [State.settle_scale, e]
    exact k.setQueue queue

/-- An event that leaves the heat permit unit too. -/
theorem Sparing.upkeepOf {blocks : List Block} (h : Sparing blocks s t) (inner : blocks ⊆ innerBlocks := by decide)
    (attention : .attention ∉ blocks := by decide) (heat : .heat ∉ blocks := by decide) : Upkeep s t.settle :=
  h.upkeep inner attention fun k => by
    have same : t.heat = s.heat := h.only.2 .heat heat
    rwa [PermitLaw, same]

/-- A change of one press, and the end of the event. -/
theorem Upkeep.modPress (s : State) (p : PressId) (f : Press → Press) : Upkeep s (s.modPress p f).settle :=
  (Sparing.modPress s p f).upkeepOf

/-- The causes of the attention levels read of a press its state, its setup and its zones. -/
theorem State.condition_modPress {p : PressId} {f : Press → Press} (state : (f (s.press p)).state = (s.press p).state)
    (cause : (f (s.press p)).drive.faultCause = (s.press p).faultCause) : (s.modPress p f).condition = s.condition := by
  have states (q : PressId) : ((s.modPress p f).press q).state = (s.press q).state := by
    rw [State.modPress_press]
    split
    next e => subst e; exact state
    next => rfl
  have causes (q : PressId) : ((s.modPress p f).press q).faultCause = (s.press q).faultCause := by
    rw [State.modPress_press]
    split
    next e => subst e; exact cause
    next => rfl
  funext l
  simp only [State.condition, states, causes, State.modPress_heat, State.modPress_scale, State.modPress_history]

/-- A change of one press that touches no condition, without an end of event. -/
theorem Upkeep.quietPress {p : PressId} {f : Press → Press} (state : (f (s.press p)).state = (s.press p).state)
    (cause : (f (s.press p)).drive.faultCause = (s.press p).faultCause) : Upkeep s (s.modPress p f) where
  frame := (OnlyChanges.modPress s p f).mono (by decide)
  attention k := k.congr rfl (State.condition_modPress state cause)
  permit := id
  scale := id

/-- The zones may change but for their sensors without touching a condition. -/
theorem Press.faultCause_congr {x y : Press} (state : y.state = x.state) (setup : y.setup = x.setup)
    (sensor : ∀ z : ZoneId, y.zones[z].sensor = x.zones[z].sensor) : y.faultCause = x.faultCause := by
  simp only [Press.faultCause, state, Press.isActive_congr setup, sensor]

end Basics

section Requests

variable (s : State)

/-! ## The requests -/

theorem Upkeep.withPress {b : Byte} {act : PressId → State × Reply} (h : ∀ p, Upkeep s (act p).1) :
    Upkeep s (withPress b s act).1 := by
  unfold Machine.withPress
  split
  · exact .refl s
  · exact h _

theorem Upkeep.serveCellSet (rounding filterTime : Byte) (serial : BitVec 32) :
    Upkeep s (serveCellSet rounding filterTime serial s).1 := by
  unfold Machine.serveCellSet
  split
  · exact .refl s
  · exact ⟨⟨rfl, fun b hb => by cases b <;> simp_all [State.keeps, State.applyCell, innerBlocks]⟩,
      fun k => k.congr rfl rfl, id, id⟩

theorem Upkeep.restart : Upkeep s s.restart where
  frame := by
    have reset : OnlyChanges innerBlocks s ({ s.modAll fun p x => x.restart (s.recipeOf p) with
        heat := .reset, scale := s.scale.restart, attention := .reset } : State) :=
      ⟨rfl, fun b hb => by cases b <;> simp_all [State.keeps, innerBlocks]⟩
    exact reset.settle (by decide)
  attention _ := attentionLaw_settle fun l => by
    have level : Attention.reset.levels[l] = Level.reset := by simp [Attention.reset]
    rw [show Attention.levels _ = Attention.reset.levels from rfl, level]
    exact ⟨fun _ => ⟨rfl, rfl⟩, nofun⟩
  permit _ := ⟨iff_of_false (Nat.lt_irrefl 0) nofun, Nat.zero_le _⟩
  scale _ := .clearRun (iff_of_false nofun nofun) (iff_of_false nofun nofun)

theorem Upkeep.serveRestart : Upkeep s (serveRestart s).1 := by
  unfold Machine.serveRestart
  split
  · exact .refl s
  · exact .restart s

theorem Upkeep.servePressSetup (press slot zones gating : Byte) : Upkeep s (servePressSetup press slot zones gating s).1 := by
  refine .withPress s fun p => ?_
  split
  · exact .refl s
  · split
    · exact .refl s
    · split
      · exact .refl s
      · split
        · exact .refl s
        · split
          · exact .refl s
          · exact .modPress s p _

theorem Upkeep.servePressEnable (press : Byte) : Upkeep s (servePressEnable press s).1 := by
  refine .withPress s fun p => ?_
  split
  · exact .refl s
  · split
    · exact .refl s
    · exact (Sparing.enablePress s p).upkeepOf

theorem Upkeep.servePressDisable (press : Byte) : Upkeep s (servePressDisable press s).1 := by
  refine .withPress s fun p => ?_
  split
  · have disabled : Sparing [.presses, .scale] s ((s.leaveQueue p).modPress p Press.toOffline) :=
      ((Sparing.leaveQueue s p).mono (by simp)).trans (.placing _ p _)
    exact disabled.upkeepOf
  · exact .refl s

theorem Upkeep.servePressAbort (press : Byte) : Upkeep s (servePressAbort press s).1 := by
  refine .withPress s fun p => ?_
  split
  · exact .refl s
  next t h => exact (Sparing.abortPress s p h).upkeepOf

theorem Upkeep.serveEjectRetry (press : Byte) : Upkeep s (serveEjectRetry press s).1 := by
  refine .withPress s fun p => ?_
  split
  · exact .refl s
  · exact .modPress s p _

theorem Upkeep.serveEjectForce (press level : Byte) : Upkeep s (serveEjectForce press level s).1 := by
  refine .withPress s fun p => ?_
  split
  · exact .refl s
  · split
    · exact .modPress s p _
    · exact .refl s

theorem Upkeep.servePressStatus (press : Byte) : Upkeep s (servePressStatus press s).1 :=
  .withPress s fun _ => .quietPress (f := fun x => { x with changes := {} }) rfl rfl

theorem Upkeep.serveRecipeWrite (slot : Byte) (recipe : RecipeWire) : Upkeep s (serveRecipeWrite slot recipe s).1 := by
  unfold Machine.serveRecipeWrite
  split
  · exact .refl s
  · split
    · exact .refl s
    · split
      · exact .refl s
      · exact (Sparing.storeRecipe s _ _).upkeepOf

theorem Upkeep.serveRecipeRead (slot : Byte) : Upkeep s (serveRecipeRead slot s).1 := by
  unfold Machine.serveRecipeRead
  split
  · exact .refl s
  · split <;> exact .refl s

theorem Upkeep.serveRecipeClear (slot : Byte) : Upkeep s (serveRecipeClear slot s).1 := by
  unfold Machine.serveRecipeClear
  split
  · exact .refl s
  · split
    · exact .refl s
    · split
      · exact .refl s
      · exact (Sparing.clearRecipe s _).upkeepOf

theorem Upkeep.serveZoneMode (press zone mode : Byte) (duty : BitVec 16) : Upkeep s (serveZoneMode press zone mode duty s).1 := by
  refine .withPress s fun p => ?_
  split
  · exact .refl s
  · split
    · exact .refl s
    · exact .modPress s p _

/-- A change of the heat permit unit's own count, flag and countdown, before a change of heat state. -/
theorem Sparing.setHeat (h : HeatUnit) : Sparing [.presses, .heat, .scale] s { s with heat := h } :=
  ⟨⟨rfl, fun b hb => by cases b <;> simp_all [State.keeps]⟩, _, rfl⟩

theorem Sparing.markCycles (f : RecordFlags → RecordFlags) : Sparing [.presses, .heat, .scale] s (s.markCycles f) :=
  (Sparing.modAll s _).mono (by simp)

theorem Sparing.grantHeat (d : Nat) : Sparing [.presses, .heat, .scale] s (s.grantHeat d) :=
  (Sparing.setHeat s _).trans (.changeHeat _ .run)

theorem State.grantHeat_heat (d : Nat) : (s.grantHeat d).heat =
    { state := .run, remaining := d * 10, lapse := false, nextStep := laterBy s.clock 100 } := by
  simp [State.grantHeat, Config.stepsPerSecond, Config.countdownPeriod]

theorem Sparing.standByHeat : Sparing [.presses, .heat, .scale] s s.standByHeat :=
  (Sparing.setHeat s _).trans (.changeHeat _ .standby)

theorem State.standByHeat_heat : s.standByHeat.heat = { s.heat with state := .standby, remaining := 0 } := by
  simp [State.standByHeat]

theorem Sparing.turnHeatOff : Sparing [.presses, .heat, .scale] s s.turnHeatOff :=
  (Sparing.setHeat s _).trans ((Sparing.markCycles _ _).trans (.changeHeat _ .off))

theorem State.turnHeatOff_heat : s.turnHeatOff.heat = { s.heat with state := .off, remaining := 0 } := by
  simp [State.turnHeatOff, State.markCycles]

/-- What a lapse does before the end of its event (R64, R67). -/
def State.lapsed : State :=
  (({ s with heat := { s.heat with remaining := 0, lapse := true } } : State).markCycles
    fun f => { f with permitLapse := true }).changeHeat .standby

theorem State.lapseHeat_eq : s.lapseHeat = s.lapsed.settle := rfl

theorem Sparing.lapsed : Sparing [.presses, .heat, .scale] s s.lapsed :=
  (Sparing.setHeat s _).trans ((Sparing.markCycles _ _).trans (.changeHeat _ .standby))

theorem State.lapsed_heat : s.lapsed.heat = { s.heat with state := .standby, remaining := 0, lapse := true } := by
  simp [State.lapsed, State.markCycles]

variable {s} in
/-- Without heat nothing remains (R62). -/
theorem permitLaw_of_cold {t : State} (remaining : t.heat.remaining = 0) (cold : t.heat.state ≠ .run) : PermitLaw t :=
  ⟨iff_of_false (by omega) cold, by omega⟩

theorem Upkeep.serveHeatPermit (duration : BitVec 16) : Upkeep s (serveHeatPermit duration s).1 := by
  unfold Machine.serveHeatPermit
  dsimp only
  split
  · exact (Sparing.standByHeat s).upkeep (permit := fun _ => permitLaw_of_cold (by rw [State.standByHeat_heat])
      (by rw [State.standByHeat_heat]; nofun))
  next given =>
    refine (Sparing.grantHeat s _).upkeep (permit := fun _ => ?_)
    rw [PermitLaw, State.grantHeat_heat]
    have small : min duration.toNat Config.maxPermit ≤ 600 := min_le_right _ _
    exact ⟨iff_of_true (by simp only; omega) rfl, by simp only; omega⟩

theorem Upkeep.serveHeatOff : Upkeep s (serveHeatOff s).1 :=
  (Sparing.turnHeatOff s).upkeep (permit := fun _ => permitLaw_of_cold (by rw [State.turnHeatOff_heat])
    (by rw [State.turnHeatOff_heat]; nofun))

theorem Upkeep.lapseHeat : Upkeep s s.lapseHeat :=
  (Sparing.lapsed s).upkeep (permit := fun _ => permitLaw_of_cold (by rw [State.lapsed_heat])
    (by rw [State.lapsed_heat]; nofun))

variable {s} in
/-- A change of the scale, and the end of the event. -/
theorem Upkeep.setScale {c : Scale} (ok : s.scale.Ok → c.Ok) : Upkeep s ({ s with scale := c } : State).settle where
  frame := (s.setScale_settle_onlyChanges c).mono (by decide)
  attention k := k.settled rfl
  permit := id
  scale := ok

theorem Upkeep.serveScaleSet (zero gain : BitVec 32) (band : BitVec 16) (qualify : Byte) (place empty tareLimit : BitVec 32) :
    Upkeep s (serveScaleSet zero gain band qualify place empty tareLimit s).1 := by
  unfold Machine.serveScaleSet
  dsimp only
  split
  · exact .refl s
  · split
    · exact .refl s
    · exact .setScale fun _ => .clearRun (iff_of_false nofun nofun) (iff_of_false nofun nofun)

theorem Upkeep.serveScaleZero : Upkeep s (serveScaleZero s).1 := by
  unfold Machine.serveScaleZero
  split
  · exact .refl s
  next away =>
    exact .setScale fun k => .clearRun (iff_of_false (by simp [k.held_eq_none (by tauto)]) nofun) (iff_of_false nofun nofun)

theorem Upkeep.serveHistoryRead (position : Byte) : Upkeep s (serveHistoryRead position s).1 := by
  unfold Machine.serveHistoryRead
  split <;> exact .refl s

theorem Upkeep.serveHistoryAck (serial : BitVec 32) : Upkeep s (serveHistoryAck serial s).1 := by
  unfold Machine.serveHistoryAck
  split
  · exact .refl s
  · exact (Sparing.acknowledge s _).upkeepOf

/-! ## The requests of the attention controller -/

variable {s} in
/-- A request that moves the controller, keeps every condition, and judges ATTN. -/
theorem Upkeep.setAttention {a : Attention} (held : ∀ condition, s.attention.Holds condition → a.Holds condition) :
    Upkeep s { s with attention := a.judge } where
  frame := ⟨rfl, fun b hb => by cases b <;> simp_all [State.keeps, innerBlocks]⟩
  attention k := k.setAttention held
  permit := id
  scale := id

variable {s} in
/-- The lowest level is in no level's own law. -/
theorem Attention.Holds.ite {a : Attention} {condition : LevelId → Bool} (h : a.Holds condition) (rotate : Bool) (l : LevelId) :
    (if rotate then { a with lowest := l } else a).Holds condition := by
  cases rotate <;> exact h

theorem Attention.Holds.endLevel {a : Attention} {condition : LevelId → Bool} (h : a.Holds condition) (l : LevelId) :
    (a.endLevel l).Holds condition :=
  h.onLevel l (fun _ => rfl) fun _ k => k.setInService false

theorem Upkeep.servePoll : Upkeep s (servePoll s).1 := by
  unfold Machine.servePoll
  split
  · exact .refl s
  next l _ =>
    have granted (condition : LevelId → Bool) (h : s.attention.Holds condition) :
        (s.attention.onLevel l (Level.grant s.attention.autoEnd)).Holds condition :=
      h.onLevel l (fun _ => rfl) fun _ k => k.grant _
    dsimp only
    unfold Attention.grant
    dsimp only
    split
    · exact .setAttention granted
    · exact .setAttention granted

theorem Upkeep.serveEndService (form level rotate : Byte) : Upkeep s (serveEndService form level rotate s).1 := by
  have nonSpecific (r : Bool) : Upkeep s (endNonSpecific r s).1 := by
    unfold endNonSpecific
    split
    · exact .refl s
    next l _ => exact .setAttention fun _ h => (h.endLevel l).ite r l
  have specific (l : LevelId) (r : Bool) : Upkeep s (endSpecific l r s).1 := by
    refine .setAttention fun condition h => Attention.Holds.ite ?_ r l
    split
    · exact h.endLevel l
    · exact h
  unfold Machine.serveEndService
  split
  · exact .refl s
  · split
    · exact .refl s
    · exact nonSpecific _
  · split
    · exact .refl s
    · split
      · exact .refl s
      · exact specific _ _

theorem Upkeep.serveSetLowest (level : Byte) : Upkeep s (serveSetLowest level s).1 := by
  unfold Machine.serveSetLowest
  split
  · exact .refl s
  next l _ => exact .setAttention (a := { s.attention with lowest := l }) fun _ h => h

theorem Upkeep.serveAttnSetup (mask edge : BitVec 16) (nesting autoEnd rotate : Byte) :
    Upkeep s (serveAttnSetup mask edge nesting autoEnd rotate s).1 := by
  unfold Machine.serveAttnSetup
  split
  case h_6 m e n ae r _ _ _ _ _ =>
    refine .setAttention fun condition h l => ?_
    have level : (Vector.ofFn fun l : LevelId =>
        { s.attention.levels[l].setEdge (e.getLsbD l.val) with masked := m.getLsbD l.val })[l] =
        { s.attention.levels[l].setEdge (e.getLsbD l.val) with masked := m.getLsbD l.val } := by simp
    rw [level]
    refine ⟨?_, ((h l).2.setEdge _).setMasked _⟩
    rw [← (h l).1]
    unfold Level.setEdge
    dsimp only
    split
    · rfl
    · split <;> rfl
  all_goals exact .refl s

/-- Whatever a request's owner does keeps clock, link and those laws (R175). -/
theorem Upkeep.serve (c : Instr) : Upkeep s (serve c s).1 := by
  cases c
  case cellSet rounding filterTime serial => exact .serveCellSet s rounding filterTime serial
  case restart => exact .serveRestart s
  case pressSetup press slot zones gating => exact .servePressSetup s press slot zones gating
  case pressEnable press => exact .servePressEnable s press
  case pressDisable press => exact .servePressDisable s press
  case pressAbort press => exact .servePressAbort s press
  case ejectRetry press => exact .serveEjectRetry s press
  case ejectForce press level => exact .serveEjectForce s press level
  case pressStatus press => exact .servePressStatus s press
  case recipeWrite slot recipe => exact .serveRecipeWrite s slot recipe
  case recipeRead slot => exact .serveRecipeRead s slot
  case recipeClear slot => exact .serveRecipeClear s slot
  case zoneMode press zone mode duty => exact .serveZoneMode s press zone mode duty
  case zoneStatus press => exact .withPress s fun _ => .refl s
  case heatPermit duration => exact .serveHeatPermit s duration
  case heatOff => exact .serveHeatOff s
  case cureStatus press => exact .withPress s fun _ => .refl s
  case scaleSet zero gain band qualify place empty tareLimit =>
    exact .serveScaleSet s zero gain band qualify place empty tareLimit
  case scaleZero => exact .serveScaleZero s
  case historyRead position => exact .serveHistoryRead s position
  case historyAck serial => exact .serveHistoryAck s serial
  case poll => exact .servePoll s
  case endService form level rotate => exact .serveEndService s form level rotate
  case setLowest level => exact .serveSetLowest s level
  case attnSetup mask edge nesting autoEnd rotate => exact .serveAttnSetup s mask edge nesting autoEnd rotate
  all_goals exact .refl s

end Requests

end Sys2Proof.Machine

/-! SUPPORT. Every step keeps the laws of the attention controller, the heat permit unit, the scale and the link, and moves
the clock by its own rule alone; with that the obligations on them. -/

namespace Sys2Proof.Machine

section Events

variable (s : State) (p : PressId)

/-! ## The events of the inner blocks -/

theorem Upkeep.closedRise (t : Clock) : Upkeep s (s.closedRise p t) := by
  have moved (f : Press → Press) : Sparing [.presses] s ((s.modPress p (Press.capture .closed true t)).modPress p f) :=
    (Sparing.modPress s p _).trans (.modPress _ p _)
  unfold State.closedRise
  dsimp only
  split
  · exact ((moved _).trans (.recomputeSetpoints _ p)).upkeepOf
  case h_9 | h_10 => exact .modPress s p _
  all_goals exact (moved _).upkeepOf

theorem Upkeep.closedFall (t : Clock) : Upkeep s (s.closedFall p t) := by
  have moved (f : Press → Press) : Sparing [.presses] s ((s.modPress p (Press.capture .closed false t)).modPress p f) :=
    (Sparing.modPress s p _).trans (.modPress _ p _)
  unfold State.closedFall
  dsimp only
  split
  case h_1 | h_2 => exact ((moved _).trans (.recomputeSetpoints _ p)).upkeepOf
  all_goals exact .modPress s p _

theorem Upkeep.clearRise (t : Clock) : Upkeep s (s.clearRise p t) := by
  have captured : Sparing [.presses, .scale, .history] s (s.modPress p (Press.capture .partClear true t)) :=
    (Sparing.modPress s p _).mono (by simp)
  unfold State.clearRise
  dsimp only
  split
  · exact ((captured.trans ((Sparing.modPress _ p _).mono (by simp))).trans (.offerCommit _ p)).upkeepOf
  · exact captured.upkeepOf

theorem Upkeep.deliverEdge (input : PressInput) (rise : Bool) (t : Clock) : Upkeep s (s.deliverEdge p input rise t) := by
  cases input <;> cases rise
  · exact .closedFall s p t
  · exact .closedRise s p t
  · exact .modPress s p _
  · exact .modPress s p _
  · exact .modPress s p _
  · exact .clearRise s p t

theorem Upkeep.sampleInput (input : PressInput) (level : Bool) : Upkeep s (s.sampleInput p input level) := by
  have filtered (f : InputFilter) : Upkeep s (s.modPress p (Press.setFilter input f)) :=
    .quietPress (by cases input <;> rfl) (by cases input <;> rfl)
  unfold State.sampleInput
  dsimp only
  split
  · exact filtered _
  · exact (filtered _).trans (.deliverEdge _ p input level _)

theorem Upkeep.endDelay : Upkeep s (s.endDelay p) := by
  unfold State.endDelay
  split
  · exact .modPress s p _
  · exact .refl s

theorem Upkeep.endPulse : Upkeep s (s.endPulse p) := by
  unfold State.endPulse
  split
  · exact .modPress s p _
  · exact .refl s

theorem Upkeep.sampleZone (z : ZoneId) (v : ZoneSample) : Upkeep s (s.sampleZone p z v) := by
  have sampled := Sparing.placing s p (Press.zoneSample s.heat.state (s.recipeOf p) z (deliveredSample v))
  refine Sparing.upkeepOf (blocks := [.presses, .scale]) ?_
  exact .ite (fun _ => sampled.trans (.pressScan _ p)) fun _ => sampled

/-- A window and an on-time move no sensor, so that no condition changes (R142). -/
theorem Upkeep.startWindow : Upkeep s (s.startWindow p) := by
  unfold State.startWindow
  split
  · exact .quietPress rfl (Press.faultCause_congr rfl rfl fun z => by
      rw [Press.drive_zones, Press.startWindow, Press.modZones_zone])
  · exact .refl s

theorem Upkeep.endOnTime (z : ZoneId) : Upkeep s (s.endOnTime p z) := by
  unfold State.endOnTime
  split
  · refine .ite (fun _ => .quietPress rfl (Press.faultCause_congr rfl rfl fun w => ?_)) fun _ => .refl s
    rw [Press.drive_zones]
    by_cases e : w = z
    · subst e; rw [Press.modZone_zone_self]
    · rw [Press.modZone_zone_ne _ _ _ _ e]
  · exact .refl s

theorem Upkeep.stepCountdown : Upkeep s s.stepCountdown := by
  unfold State.stepCountdown
  refine .ite (fun run => .ite (fun _ => .lapseHeat s) fun more => ?_) fun _ => .refl s
  refine ⟨⟨rfl, fun b hb => by cases b <;> simp_all [State.keeps, innerBlocks]⟩, fun k => k.congr rfl rfl, fun k => ?_, id⟩
  obtain ⟨-, bound⟩ := k
  exact ⟨iff_of_true (by simp only; omega) run, by simp only; omega⟩

theorem Upkeep.expirePermit : Upkeep s s.expirePermit := .ite (fun _ => .lapseHeat s) fun _ => .refl s

theorem OnlyChanges.setScale (c : Scale) : OnlyChanges [.presses, .scale, .history] s { s with scale := c } :=
  ⟨rfl, fun b hb => by cases b <;> simp_all [State.keeps]⟩

theorem OnlyChanges.verdictEvent (mass : Int) : OnlyChanges [.presses, .scale, .history] s (s.verdictEvent mass) := by
  rcases s.verdictEvent_spec mass with ⟨v, e⟩ | ⟨p, rest, v, -, -, e⟩ <;> rw [e]
  · exact .setScale s _
  · have given : OnlyChanges [.presses, .scale, .history] s (s.giveCharge p s.history.nextSerial mass s.scale.stale) :=
      ⟨rfl, fun b hb => by cases b <;> simp_all [State.keeps, State.giveCharge]⟩
    exact given.trans (.setScale _ _)

theorem OnlyChanges.rawRule (gross net : Int) (stable : Bool) :
    OnlyChanges [.presses, .scale, .history] s (s.rawRule gross net stable) := by
  rcases s.rawRule_spec gross net stable with ⟨c, -, e⟩ | e <;> rw [e]
  · exact .setScale s c
  · exact .verdictEvent s net

theorem Upkeep.sampleScale (sample : LoadSample) : Upkeep s (s.sampleScale sample) := by
  obtain ⟨t, changes, e⟩ : ∃ t, OnlyChanges [.presses, .scale, .history] s t ∧ s.sampleScale sample = t.settle := by
    cases sample with
    | overload => exact ⟨_, .setScale s _, s.sampleScale_overload⟩
    | raw v => exact ⟨_, (OnlyChanges.setScale s _).trans (.rawRule _ _ _ _), s.sampleScale_raw v⟩
  refine ⟨?_, fun k => ?_, fun k => ?_, fun k => k.sampleScale sample⟩
  · rw [e]
    exact (changes.mono (by decide)).settle (by decide)
  · rw [e]
    exact k.settled (changes.2 .attention (by decide))
  · have heat : t.heat = s.heat := changes.2 .heat (by decide)
    rwa [e, PermitLaw, State.settle_heat, heat]

end Events

/-! ## The link -/

/-- An event other than power-on and the passing of a millisecond: the clock, the phases, the line rate and the waiting
commands stay, and the laws of attention, heat, scale and link are kept. -/
structure Endures (s t : State) : Prop where
  frame : OnlyChanges (.link :: innerBlocks) s t
  fast : t.link.fast = s.link.fast
  attention : AttentionLaw s → AttentionLaw t
  permit : PermitLaw s → PermitLaw t
  scale : s.scale.Ok → t.scale.Ok
  link : LinkLaw s → LinkLaw t

section Link

variable {s t v : State}

theorem Upkeep.link_eq (h : Upkeep s t) : t.link = s.link := h.frame.2 .link (by decide)

theorem Upkeep.endures (h : Upkeep s t) : Endures s t where
  frame := h.frame.mono (by simp)
  fast := by rw [h.link_eq]
  attention := h.attention
  permit := h.permit
  scale := h.scale
  link := by simp only [LinkLaw, h.link_eq, imp_self]

theorem Endures.refl (s : State) : Endures s s := (Upkeep.refl s).endures

theorem Endures.trans (h : Endures s t) (k : Endures t v) : Endures s v :=
  ⟨h.frame.trans k.frame, k.fast.trans h.fast, k.attention ∘ h.attention, k.permit ∘ h.permit, k.scale ∘ h.scale,
    k.link ∘ h.link⟩

theorem Endures.ite {c : Prop} [Decidable c] (h : c → Endures s t) (k : ¬c → Endures s v) :
    Endures s (if c then t else v) := by
  split
  · exact h ‹_›
  · exact k ‹_›

/-- The link alone changes. -/
theorem Endures.setLink {l : Link} (fast : l.fast = s.link.fast) (link : LinkLaw s → LinkLaw { s with link := l }) :
    Endures s { s with link := l } where
  frame := ⟨rfl, fun b hb => by cases b <;> simp_all [State.keeps, innerBlocks]⟩
  fast := fast
  attention k := k.congr rfl rfl
  permit := id
  scale := id
  link := link

theorem Endures.putInHand (s : State) (e : Entry) (r : Reply) : Endures s (s.putInHand e r) :=
  .setLink rfl fun ⟨_, discarded, gap⟩ => ⟨fun _ => rfl, discarded, gap⟩

theorem Upkeep.answer (s : State) (e : Entry) : Upkeep s (answer e s).1 := by
  rcases answer_spec e s with h | ⟨c, h⟩
  · rw [h]; exact .refl s
  · rw [h]; exact .serve s c

theorem Endures.arrive {e : Entry} {act : State → State × Reply} (h : Upkeep s (act s).1) : Endures s (s.arrive e act) := by
  rcases s.arrive_spec e act with ⟨-, k⟩ | ⟨hand, -, k⟩ | ⟨-, -, k⟩
  · rw [k]; exact h.endures.trans (.putInHand _ _ _)
  · rw [k]
    exact .setLink rfl fun ⟨_, discarded, gap⟩ => ⟨fun _ => Option.isSome_iff_ne_none.2 hand, discarded, gap⟩
  · rw [k]
    exact .setLink rfl fun ⟨slot, _, gap⟩ => ⟨slot, min_le_left _ _, gap⟩

theorem Endures.newEntry (s : State) (e : Entry) : Endures s (s.newEntry e) := .arrive (.answer s e)

theorem Endures.endReply (s : State) : Endures s s.endReply := by
  unfold State.endReply
  split
  · exact .refl s
  next empty =>
    exact .setLink rfl fun ⟨_, discarded, gap⟩ => ⟨fun full => absurd full (by simp [empty]), discarded, gap⟩
  next e _ _ =>
    have emptied : Endures s { s with link := { s.link with hand := none, slot := none } } :=
      .setLink rfl fun ⟨_, discarded, gap⟩ => ⟨nofun, discarded, gap⟩
    exact (emptied.trans (Upkeep.answer _ e).endures).trans (.putInHand _ _ _)

/-- The receiver changes, its gap timer running exactly outside HUNT. -/
theorem Endures.setReceiver (s : State) {r : Receiver} (gap : r.gapFrom.isSome ↔ r.state ≠ .hunt) :
    Endures s (s.setReceiver r) :=
  .setLink rfl fun ⟨slot, discarded, _⟩ => ⟨slot, discarded, gap⟩

theorem Endures.hunt (s : State) : Endures s s.hunt := .setReceiver s (iff_of_false nofun fun h => h rfl)

theorem Endures.receive (s : State) (b : Byte) : Endures s (s.receive b) := by
  unfold State.receive
  dsimp only
  split
  · exact .ite (fun _ => .setReceiver s (iff_of_true rfl nofun)) fun _ => .refl s
  · exact .ite (fun _ => .setReceiver s (iff_of_true rfl nofun)) fun _ => (Endures.hunt s).trans (.newEntry _ _)
  · refine .setReceiver s (iff_of_true rfl ?_)
    dsimp only
    split <;> nofun
  next st =>
    split
    · exact .setReceiver s (iff_of_true rfl (by simp [st]))
    · exact (Endures.hunt s).trans (.newEntry _ _)

theorem Endures.expireGap (s : State) : Endures s s.expireGap := by
  unfold State.expireGap
  split
  · exact .refl s
  all_goals exact .hunt s

/-! ## The timed events -/

theorem Endures.strokeTimer (s : State) (p : PressId) : Endures s (s.strokeTimer p) := by
  unfold State.strokeTimer
  split
  · exact .ite (fun _ => (Upkeep.endDelay s p).endures) fun _ => .refl s
  · exact .ite (fun _ => (Upkeep.endPulse s p).endures) fun _ => .refl s
  · exact .refl s

theorem Endures.windowTimer (s : State) (p : PressId) : Endures s (s.windowTimer p) := by
  unfold State.windowTimer
  split
  · exact .ite (fun _ => (Upkeep.startWindow s p).endures) fun _ => .refl s
  · exact .refl s

theorem Endures.onTimeTimer (s : State) (p : PressId) (z : ZoneId) : Endures s (s.onTimeTimer p z) := by
  unfold State.onTimeTimer
  split
  · exact .ite (fun _ => (Upkeep.endOnTime s p z).endures) fun _ => .refl s
  · exact .refl s

theorem Endures.foldl {α : Type} {act : State → α → State} (h : ∀ s a, Endures s (act s a)) (l : List α) (s : State) :
    Endures s (l.foldl act s) := by
  induction l generalizing s with
  | nil => exact .refl s
  | cons a rest ih => exact (h s a).trans (ih _)

theorem Endures.runTimers (s : State) : Endures s s.runTimers := by
  have reply : Endures s s.replyTaken := .ite (fun _ => .endReply s) fun _ => .refl s
  have gap (s : State) : Endures s s.gapTaken := .ite (fun _ => .expireGap s) fun _ => .refl s
  have strokes (s : State) : Endures s s.strokesTaken := .foldl .strokeTimer _ s
  have windows (s : State) : Endures s s.windowsTaken := .foldl .windowTimer _ s
  have onTimes (s : State) : Endures s s.onTimesTaken := .foldl (fun s p => .foldl (fun s z => .onTimeTimer s p z) _ s) _ s
  have countdown (s : State) : Endures s s.countdownTaken := .ite (fun _ => (Upkeep.stepCountdown s).endures) fun _ => .refl s
  rw [State.runTimers_eq]
  exact reply.trans ((gap _).trans ((strokes _).trans ((windows _).trans ((onTimes _).trans (countdown _)))))

/-! ## The commands -/

theorem Endures.event (s : State) {c : Instr} (running : ∀ strap, c ≠ .powerOn strap) : Endures s (s.event c) := by
  cases c
  case powerOn strap => exact absurd rfl (running strap)
  case byteReceived value => exact .receive s value
  case gapTimerExpiry => exact .expireGap s
  case replyEnd => exact .endReply s
  case closedRise p t => exact (Upkeep.closedRise s p t).endures
  case closedFall p t => exact (Upkeep.closedFall s p t).endures
  case ejectContactRise p t => exact (Upkeep.modPress s p _).endures
  case ejectContactFall p t => exact (Upkeep.modPress s p _).endures
  case partClearRise p t => exact (Upkeep.clearRise s p t).endures
  case partClearFall p t => exact (Upkeep.modPress s p _).endures
  case delayEnd p => exact (Upkeep.endDelay s p).endures
  case pulseEnd p => exact (Upkeep.endPulse s p).endures
  case zoneSample p z v => exact (Upkeep.sampleZone s p z v).endures
  case windowStart p => exact (Upkeep.startWindow s p).endures
  case onTimeEnd p z => exact (Upkeep.endOnTime s p z).endures
  case loadCellSample v => exact (Upkeep.sampleScale s v).endures
  case permitLapse => exact (Upkeep.expirePermit s).endures
  case pressInputSample p input level => exact (Upkeep.sampleInput s p input level).endures
  case permitCountdownStep => exact (Upkeep.stepCountdown s).endures
  all_goals exact .refl s

theorem Endures.run (s : State) {c : Instr} (running : ∀ strap, c ≠ .powerOn strap) : Endures s (s.run c) :=
  .ite (fun _ => .arrive (.serve s c)) fun _ => .event s running

end Link

/-! ## The laws after power-on -/

section PowerOn

variable (strap : Bool)

/-- After power-on no cause of an attention level holds. -/
theorem State.powerOn_condition (l : LevelId) : (State.powerOn strap).condition l = false := by
  have cause (p : PressId) : ((State.powerOn strap).press p).faultCause = false := by
    rw [State.powerOn_press]
    simp [Press.faultCause, Press.reset]
  have state (p : PressId) : ((State.powerOn strap).press p).state = .offline := by
    rw [State.powerOn_press]; rfl
  unfold State.condition
  simp only [cause, state]
  split_ifs
  · simp
  all_goals rfl

theorem State.powerOn_level (l : LevelId) : (State.powerOn strap).attention.levels[l] = Level.reset := by
  simp [State.powerOn, Attention.reset]

theorem attentionLaw_powerOn : AttentionLaw (State.powerOn strap) := by
  refine attentionLaw_iff.2 ⟨fun l => ?_, iff_of_false nofun fun ⟨l, h⟩ => ?_⟩
  · rw [State.powerOn_condition, State.powerOn_level]
    exact ⟨rfl, fun _ => ⟨rfl, rfl⟩, nofun⟩
  · rw [Attention.presentable, State.powerOn_level] at h
    cases h

theorem permitLaw_powerOn : PermitLaw (State.powerOn strap) := permitLaw_of_cold rfl nofun

theorem scaleOk_powerOn : (State.powerOn strap).scale.Ok :=
  ⟨iff_of_false nofun nofun, iff_of_false nofun nofun, iff_of_false nofun (Nat.lt_irrefl 0), Nat.zero_le _⟩

theorem linkLaw_powerOn : LinkLaw (State.powerOn strap) := ⟨nofun, Nat.zero_le _, iff_of_false nofun fun h => h rfl⟩

end PowerOn

/-! ## Every step -/

/-- A law that every event but power-on and the passing of time keeps, that power-on meets, and that reads neither the clock
nor the waiting commands, is kept by every step. -/
theorem keptByEveryStep_of {law : State → Prop} (event : ∀ s t, Endures s t → law s → law t)
    (power : ∀ (s : State) strap, law { State.powerOn strap with pending := s.pending })
    (advance : ∀ s : State, law s → law s.advance) (queue : ∀ (s : State) rest, law s → law { s with pending := rest }) :
    KeptByEveryStep law := by
  intro s t h next
  rcases step_spec next with ⟨-, rfl⟩ | ⟨c, rest, -, rfl⟩
  · rw [State.tick]
    exact advance _ (event _ _ (.runTimers s) h)
  · by_cases running : ∀ strap, c ≠ .powerOn strap
    · exact event _ _ (.run _ running) (queue s rest h)
    · obtain ⟨strap, rfl⟩ := not_forall_not.1 running
      exact power { s with pending := rest } strap

/-- Settles O56: every event ends with its conditions handed on, or changes none of them. -/
theorem attentionFollowsTheConditions : Obligations.AttentionFollowsTheConditions :=
  keptByEveryStep_of (fun _ _ h => h.attention) (fun _ strap => (attentionLaw_powerOn strap).congr rfl rfl)
    (fun _ h => h.congr rfl rfl) fun _ _ h => h.congr rfl rfl

/-- Settles O60: the heat permit unit, the scale and the link each keep their law at every event. -/
theorem unitsKeepTheirLaws : Obligations.UnitsKeepTheirLaws := by
  unfold Obligations.UnitsKeepTheirLaws
  refine ⟨?_, ?_, ?_⟩
  · exact keptByEveryStep_of (fun _ _ h => h.permit) (fun _ strap => permitLaw_powerOn strap) (fun _ => id) fun _ _ => id
  · exact keptByEveryStep_of (fun _ _ h k => scaleLaw_iff.2 (h.scale (scaleLaw_iff.1 k)))
      (fun _ strap => scaleLaw_iff.2 (scaleOk_powerOn strap)) (fun _ => id) fun _ _ => id
  · exact keptByEveryStep_of (fun _ _ h => h.link) (fun _ strap => linkLaw_powerOn strap) (fun _ => id) fun _ _ => id

/-- Settles O3: every command answers a state, and only power-on touches clock, phases and rate. -/
theorem everyCommandCompletes : Obligations.EveryCommandCompletes := by
  unfold Obligations.EveryCommandCompletes
  intro c s
  refine ⟨s.run c, exec_eq c s, ?_⟩
  by_cases running : ∀ strap, c ≠ .powerOn strap
  · have kept := Endures.run s running
    obtain ⟨clock, scan, load⟩ := kept.frame.2 .clock (by decide)
    exact ⟨kept.frame.1, fun _ => ⟨clock, scan, load, kept.fast⟩⟩
  · refine ⟨?_, fun h => absurd h running⟩
    obtain ⟨strap, rfl⟩ := not_forall_not.1 running
    rfl

/-- Settles O1: a step takes the command at the front of the queue. -/
theorem stepRunsTheFrontCommand : Obligations.StepRunsTheFrontCommand := by
  unfold Obligations.StepRunsTheFrontCommand
  intro c rest s waiting
  simp only [step, waiting]

/-- Settles O5: after power-on with a low strap nothing waits, nothing is held and nothing is driven. -/
theorem resetMeetsTheLaws : Obligations.ResetMeetsTheLaws :=
  ⟨fun _ => rfl, pinLaw_powerOn false, attentionLaw_powerOn false, cycleLaw_powerOn false, serialLaw_powerOn false,
    platenLaw_powerOn false, setpointLaw_powerOn false, permitLaw_powerOn false, scaleLaw_iff.2 (scaleOk_powerOn false),
    linkLaw_powerOn false⟩

/-- Settles O4: every block is at its power-on values, press by press, zone by zone and level by level. -/
theorem powerOnValues : Obligations.PowerOnValues := by
  unfold Obligations.PowerOnValues
  intro strap s
  refine ⟨_, rfl, rfl, rfl, rfl, rfl, fun p => ?_, fun p => ?_, fun p z => ?_, fun n => ?_, rfl, rfl, rfl, rfl, rfl,
    fun l => ⟨?_, ?_⟩, rfl, rfl, rfl, rfl, rfl, rfl⟩
  · have press : ({ State.powerOn strap with pending := s.pending } : State).press p = Press.reset :=
      State.powerOn_press strap p
    rw [press]
    exact ⟨rfl, rfl, rfl, rfl, rfl, rfl, rfl, rfl, rfl, rfl, rfl, fun i => by cases i <;> exact ⟨rfl, rfl⟩⟩
  · have press : ({ State.powerOn strap with pending := s.pending } : State).press p = Press.reset :=
      State.powerOn_press strap p
    rw [press]
    exact ⟨rfl, rfl, rfl, rfl⟩
  · have press : ({ State.powerOn strap with pending := s.pending } : State).press p = Press.reset :=
      State.powerOn_press strap p
    rw [press]
    exact ⟨by simp [Press.reset], rfl, by simp [Press.reset, Zone.reset]⟩
  · simp [State.powerOn]
  · exact State.powerOn_level strap l
  · exact State.powerOn_condition strap l

end Sys2Proof.Machine

/-! SUPPORT. The requests on the wire: what a request's kind and payload read back as, and the table of the kinds
(R175, R183, R184; 10.1, 10.3, 10.5). -/

namespace Sys2Proof.Machine

/-! ## Integers on the wire -/

/-- A 16-bit integer reads back from its two bytes (R183). -/
theorem high_append_low (v : BitVec 16) : v.extractLsb' 8 8 ++ v.extractLsb' 0 8 = v := by
  ext i hi
  simp only [BitVec.getElem_append, BitVec.getElem_extractLsb']
  grind

/-- A 32-bit integer reads back from its four bytes (R183). -/
theorem four_bytes_append (v : BitVec 32) :
    v.extractLsb' 24 8 ++ v.extractLsb' 16 8 ++ v.extractLsb' 8 8 ++ v.extractLsb' 0 8 = v := by
  ext i hi
  simp only [BitVec.getElem_append, BitVec.getElem_extractLsb']
  grind

section Reading

variable (b : Byte) (v : BitVec 16) (w : BitVec 32) (l : List Byte) (n : Nat)

@[simp] theorem byteAt_here : byteAt (b :: l) 0 = b := rfl
@[simp] theorem u16At_here : u16At (le16 v ++ l) 0 = v := high_append_low v
@[simp] theorem u32At_here : u32At (le32 w ++ l) 0 = w := four_bytes_append w

@[simp] theorem byteAt_cons : byteAt (b :: l) (n + 1) = byteAt l n := rfl
@[simp] theorem byteAt_le16 : byteAt (le16 v ++ l) (n + 2) = byteAt l n := rfl
@[simp] theorem byteAt_le32 : byteAt (le32 w ++ l) (n + 4) = byteAt l n := rfl
@[simp] theorem u16At_cons : u16At (b :: l) (n + 1) = u16At l n := rfl
@[simp] theorem u16At_le16 : u16At (le16 v ++ l) (n + 2) = u16At l n := rfl
@[simp] theorem u16At_le32 : u16At (le32 w ++ l) (n + 4) = u16At l n := rfl
@[simp] theorem u32At_cons : u32At (b :: l) (n + 1) = u32At l n := rfl
@[simp] theorem u32At_le16 : u32At (le16 v ++ l) (n + 2) = u32At l n := rfl
@[simp] theorem u32At_le32 : u32At (le32 w ++ l) (n + 4) = u32At l n := rfl

end Reading

/-! ## The recipe record on the wire -/

/-- The eight entries of a vector, in order. -/
theorem toList_eight {α : Type} (v : Vector α 8) : v.toList = [v[0], v[1], v[2], v[3], v[4], v[5], v[6], v[7]] :=
  List.ext_getElem (by simp) fun i hi _ => by
    have hi : i < 8 := by simpa using hi
    interval_cases i <;> rfl

theorem finRange_eight : List.finRange 8 = [0, 1, 2, 3, 4, 5, 6, 7] := rfl

theorem ofFn_eight {α : Type} {f : Fin 8 → α} {v : Vector α 8} (h : ∀ i, f i = v[i]) : Vector.ofFn f = v :=
  Vector.ext fun i hi => by simpa using h ⟨i, hi⟩

/-- A recipe record reads back behind the slot of its RECIPE_WRITE (R183, 10.5). -/
theorem recipeAt_bytes (slot : Byte) (r : RecipeWire) : recipeAt (slot :: r.bytes) 1 = r := by
  unfold RecipeWire.bytes recipeAt
  simp only [toList_eight, finRange_eight, List.flatMap_cons, List.flatMap_nil, List.append_assoc, List.nil_append,
    List.cons_append]
  obtain ⟨baseTemp, spLimit, standbyTemp, zoneTrim, durations, offsets, kp, ki, maxDuty, heaterWindow, readyBand, dropBand,
    readyQualify, dropQualify, tRef, doubling, cureTarget, minClose, maxClose, chargeMin, chargeMax, ejectDelay,
    ejectWidth, rounding⟩ := r
  rw [RecipeWire.mk.injEq]
  refine ⟨?_, ?_, ?_, ofFn_eight fun z => ?trim, ofFn_eight fun k => ?duration, ofFn_eight fun k => ?offset, ?_, ?_, ?_, ?_,
    ?_, ?_, ?_, ?_, ?_, ?_, ?_, ?_, ?_, ?_, ?_, ?_, ?_, ?_⟩
  case trim => fin_cases z <;> simp
  case duration => fin_cases k <;> simp
  case offset => fin_cases k <;> simp
  all_goals simp

/-! ## Kinds and lengths -/

/-- A request's kind names it, read from its payload, and requires the payload's length (R184). -/
theorem requestOf_requestBytes {c : Instr} {kind : Byte} {payload : List Byte}
    (h : requestBytes c = some (kind, payload)) : requestOf kind payload = some (payload.length, c) := by
  cases c
  case recipeWrite slot recipe =>
    cases h
    have length : (slot :: recipe.bytes).length = 92 := by rw [List.length_cons, RecipeWire.bytes_length]
    rw [length]
    exact congrArg (fun r => some (92, Instr.recipeWrite slot r)) (recipeAt_bytes slot recipe)
  case scaleSet zero gain band qualify place empty tareLimit =>
    cases h
    simp [requestOf, show u32At (le32 tareLimit) 0 = tareLimit from four_bytes_append tareLimit]
  all_goals cases h
  all_goals simp [requestOf, fill9]

/-- A kind the part defines stands in the table with the length it requires (R184). -/
theorem kindTable_of_requestOf {kind : Byte} {payload : List Byte} {n : Nat} {c : Instr}
    (h : requestOf kind payload = some (n, c)) : (kind.toNat, n) ∈ kindTable := by
  unfold requestOf at h
  split at h <;> cases h <;> simp_all [kindTable]

/-- A kind that names no request stands nowhere in the table (R184). -/
theorem not_mem_kindTable_of_requestOf {kind : Byte} {payload : List Byte} (h : requestOf kind payload = none) :
    kind.toNat ∉ kindTable.map Prod.fst := by
  unfold requestOf at h
  split at h
  case h_32 => simp_all [kindTable]
  all_goals cases h

/-- A request reads back from its kind and payload (R175, R183, R184). -/
theorem decodeRequest_requestBytes {c : Instr} {kind : Byte} {payload : List Byte}
    (h : requestBytes c = some (kind, payload)) : decodeRequest kind payload = .request c := by
  simp [decodeRequest, requestOf_requestBytes h]

/-- A kind and payload length outside the table are refused: by the length where the table holds the kind, else by the
kind (R175). -/
theorem answer_of_not_mem_kindTable {kind : Byte} {payload : List Byte} (h : (kind.toNat, payload.length) ∉ kindTable)
    (s : State) :
    answer (.request kind payload) s = (s, [if kind.toNat ∈ kindTable.map Prod.fst then 2 else 1]) := by
  cases named : requestOf kind payload with
  | none =>
    rw [if_neg (not_mem_kindTable_of_requestOf named)]
    exact answer_of_unknownKind (by simp [decodeRequest, named]) s
  | some read =>
    obtain ⟨n, c⟩ := read
    have stands := kindTable_of_requestOf named
    have other : payload.length ≠ n := fun same => h (same ▸ stands)
    rw [if_pos (List.mem_map.2 ⟨_, stands, rfl⟩)]
    exact answer_of_badLength (by simp [decodeRequest, named, other]) s

/-- Settles O6: the kind of a request names it with the length of its payload, which therefore passes both tests. -/
theorem requestsRoundTrip : Obligations.RequestsRoundTrip := by
  unfold Obligations.RequestsRoundTrip
  intro c request
  obtain ⟨kind, payload, bytes⟩ := requestBytes_of_isRequest request
  exact ⟨kind, payload, bytes, kindTable_of_requestOf (requestOf_requestBytes bytes), decodeRequest_requestBytes bytes⟩

end Sys2Proof.Machine

/-! SUPPORT. The bytes of a frame in the receiver: what a run of bytes leaves, the entry it becomes, and what the entry
does (R167..R173, 9.2). -/

namespace Sys2Proof.Machine

/-! ## Runs of bytes -/

/-- The bytes of a list are received one after another (R167). -/
theorem execAll_byteReceived (bytes : List Byte) (s : State) :
    execAll (bytes.map Instr.byteReceived) s = .next (bytes.foldl State.receive s) := by
  induction bytes generalizing s with
  | nil => rfl
  | cons b bytes ih => exact ih (s.receive b)

theorem State.setReceiver_self {s : State} {r : Receiver} (h : s.link.receiver = r) : s.setReceiver r = s := by
  subst h
  rfl

/-- The bytes of a body, up to its last, are stored in order (R168). -/
theorem State.receive_body (s : State) (bytes : List Byte) (length : Byte) (body : List Byte) (gap : Option Clock)
    (some_left : bytes ≠ []) (fits : body.length + bytes.length = length.toNat) :
    bytes.foldl State.receive
        (s.setReceiver { state := .body, length := length, body := body, check := [], gapFrom := gap }) =
      s.setReceiver
        { state := .check, length := length, body := body ++ bytes, check := [], gapFrom := some s.clock } := by
  induction bytes generalizing body gap with
  | nil => exact absurd rfl some_left
  | cons b bytes ih =>
    rw [List.length_cons] at fits
    rw [List.foldl_cons]
    have stored : (s.setReceiver { state := .body, length := length, body := body, check := [], gapFrom := gap }).receive b
        = s.setReceiver
          { state := if length.toNat ≤ (body ++ [b]).length then .check else .body,
            length := length, body := body ++ [b], check := [], gapFrom := some s.clock } := rfl
    rw [stored, List.length_append, List.length_singleton]
    cases bytes with
    | nil =>
      rw [if_pos (by rw [← fits]; simp)]
      rfl
    | cons b' bytes =>
      rw [if_neg (by simp at fits; omega), ih _ _ (by simp) (by simp at fits ⊢; omega)]
      simp

/-- The bytes of a whole frame become its entry, judged by the check; the receiver is in HUNT again (R167, R168, R169). -/
theorem State.receive_frame {s : State} (hunting : s.link.receiver = Receiver.reset) {length : Byte} {body : List Byte}
    (some_left : body ≠ []) (fits : body.length = length.toNat) (short : length.toNat ≤ 241) (low high : Byte) :
    (0xA5 :: length :: body ++ [low, high]).foldl State.receive s = s.newEntry (judgedEntry length body [low, high]) := by
  have marked : s.receive 0xA5 =
      s.setReceiver { state := .length, length := 0, body := [], check := [], gapFrom := some s.clock } := by
    simp [State.receive, hunting, Receiver.reset, marker]
  have announced : (s.receive 0xA5).receive length =
      s.setReceiver { state := .body, length := length, body := [], check := [], gapFrom := some s.clock } := by
    have positive : 1 ≤ length.toNat := fits ▸ List.length_pos_iff.2 some_left
    rw [marked]
    exact if_pos ⟨positive, short⟩
  rw [List.cons_append, List.cons_append, List.foldl_cons, List.foldl_cons, announced, List.foldl_append,
    State.receive_body s body length [] _ some_left (by simpa using fits)]
  refine congrArg (fun u : State => u.newEntry (judgedEntry length body [low, high])) ?_
  exact State.setReceiver_self hunting

theorem toNat_payload_length {n : Nat} (h : n ≤ 240) : (numberByte (n + 1)).toNat = n + 1 := numberByte_toNat _ (by omega)

theorem receivedCheck_le16 (check : BitVec 16) : receivedCheck (le16 check) = check := high_append_low check

/-- The bytes that make an entry are received as that entry, the receiver in HUNT (R168, R169). -/
theorem State.receive_of_makesEntry {s : State} (hunting : s.link.receiver = Receiver.reset) {bytes : List Byte} {e : Entry}
    (h : MakesEntry bytes e) : bytes.foldl State.receive s = s.newEntry e := by
  rcases h with ⟨kind, payload, check, short, differs, rfl, rfl⟩ | ⟨length, bad, rfl, rfl⟩ | ⟨kind, payload, short, rfl, rfl⟩
  · have fits := toNat_payload_length short
    refine (State.receive_frame hunting (List.cons_ne_nil kind payload) (by simp [fits]) (by omega) _ _).trans ?_
    exact congrArg s.newEntry (if_neg fun same => differs (same.trans (receivedCheck_le16 check)).symm)
  · have refused : ¬(1 ≤ length.toNat ∧ length.toNat ≤ 241) := by
      rcases bad with rfl | long
      · simp
      · omega
    have marked : s.receive 0xA5 =
        s.setReceiver { state := .length, length := 0, body := [], check := [], gapFrom := some s.clock } := by
      simp [State.receive, hunting, Receiver.reset, marker]
    rw [List.foldl_cons, marked]
    refine (if_neg refused).trans ?_
    exact congrArg (fun u : State => u.newEntry (.linkError .frameLength)) (State.setReceiver_self hunting)
  · have fits : (BitVec.ofNat 8 (payload.length + 1)).toNat = payload.length + 1 := toNat_payload_length short
    refine (State.receive_frame hunting (List.cons_ne_nil kind payload) (by rw [fits, List.length_cons]) (by omega) _ _).trans ?_
    exact congrArg s.newEntry (if_pos (receivedCheck_le16 _).symm)

/-! ## What an entry does -/

/-- A request's entry is its frame's (R169, R184). -/
theorem requestEntry_eq {c : Instr} {kind : Byte} {payload : List Byte} (h : requestBytes c = some (kind, payload)) :
    requestEntry c = .request kind payload := by
  simp [requestEntry, h]

/-- A request's entry is served by the request's owner (R175). -/
theorem answer_requestEntry {c : Instr} (h : c.isRequest = true) : answer (requestEntry c) = serve c := by
  obtain ⟨kind, payload, bytes⟩ := requestBytes_of_isRequest h
  rw [requestEntry_eq bytes, answer_of_request (decodeRequest_requestBytes bytes)]

/-- A request's row takes its entry from the link (R171; log 1). -/
theorem exec_eq_newEntry {c : Instr} (h : c.isRequest = true) (s : State) :
    exec c s = .next (s.newEntry (requestEntry c)) := by
  rw [exec_of_isRequest h, State.request, State.newEntry, answer_requestEntry h]

section Entries

variable {s : State} {e : Entry}

theorem State.newEntry_of_free (free : s.link.hand = none) :
    s.newEntry e = (answer e s).1.putInHand e (answer e s).2 := by
  simp [State.newEntry, State.arrive, State.takeEntry, free]

theorem State.newEntry_waits (busy : s.link.hand ≠ none) (room : s.link.slot = none) :
    s.newEntry e = { s with link := { s.link with slot := some e } } := by
  obtain ⟨h, taken⟩ := Option.ne_none_iff_exists'.1 busy
  simp [State.newEntry, State.arrive, taken, room]

theorem State.newEntry_discarded (busy : s.link.hand ≠ none) (full : s.link.slot ≠ none) :
    s.newEntry e = { s with link := { s.link with discarded := min 65535 (s.link.discarded + 1) } } := by
  obtain ⟨h, taken⟩ := Option.ne_none_iff_exists'.1 busy
  obtain ⟨e', waits⟩ := Option.ne_none_iff_exists'.1 full
  simp only [State.newEntry, State.arrive, taken, waits]
  rfl

/-- What the end of a reply does with an entry waiting: the entry is taken as a new one is with nothing in hand (R171). -/
theorem State.endReply_takes (busy : s.link.hand ≠ none) (waits : s.link.slot = some e) :
    s.endReply = ({ s with link := { s.link with hand := none, slot := none } } : State).newEntry e := by
  obtain ⟨h, taken⟩ := Option.ne_none_iff_exists'.1 busy
  simp only [State.endReply, taken, waits, State.newEntry, State.arrive]

theorem State.endReply_empties (busy : s.link.hand ≠ none) (empty : s.link.slot = none) :
    s.endReply = { s with link := { s.link with hand := none } } := by
  obtain ⟨h, taken⟩ := Option.ne_none_iff_exists'.1 busy
  simp only [State.endReply, taken, empty]

theorem State.endReply_of_free (free : s.link.hand = none) : s.endReply = s := by
  simp only [State.endReply, free]

/-- An entry taken by no block leaves nothing but its answer in hand (R172, R173). -/
theorem State.newEntry_unserved {r : Reply} (free : s.link.hand = none) (unserved : answer e s = (s, r)) :
    OnlyChanges [.link] s (s.newEntry e) ∧
      s.newEntry e = { s with link := { s.link with hand := some (handOf s e e.replyKind r) } } := by
  rw [State.newEntry_of_free free, unserved]
  refine ⟨(OnlyChanges.refl s).putInHand _ _ (by simp), ?_⟩
  simp [State.putInHand, handOf]

end Entries

/-! ## The statements of the link -/

/-- Settles O7: the bytes of the frame become the request's entry, which is what the request's row takes. -/
theorem frameOfARequestIsTaken : Obligations.FrameOfARequestIsTaken := by
  unfold Obligations.FrameOfARequestIsTaken
  intro c s kind payload bytes hunting
  have request : c.isRequest = true := by simp [Instr.isRequest, bytes]
  have short : payload.length ≤ 240 := by
    have length : ∀ row ∈ kindTable, row.2 ≤ 240 := by decide
    exact length _ (kindTable_of_requestOf (requestOf_requestBytes bytes))
  rw [execAll_byteReceived, exec_eq_newEntry request, requestEntry_eq bytes,
    State.receive_of_makesEntry hunting (.inr (.inr ⟨kind, payload, short, rfl, rfl⟩))]

/-- Settles O8: the bytes become a link error, which no block serves. -/
theorem damagedFramesAreAnswered : Obligations.DamagedFramesAreAnswered := by
  unfold Obligations.DamagedFramesAreAnswered
  intro s hunting free
  refine ⟨fun kind payload check short differs => ?badCheck, fun length bad => ?frameLength⟩
  case badCheck =>
    obtain ⟨only, taken⟩ := State.newEntry_unserved (e := .linkError .badCheck) free rfl
    refine ⟨s.newEntry (.linkError .badCheck), ?_, only, by rw [taken]; rfl⟩
    rw [execAll_byteReceived,
      State.receive_of_makesEntry hunting (.inl ⟨kind, payload, check, short, differs, rfl, rfl⟩)]
  case frameLength =>
    obtain ⟨only, taken⟩ := State.newEntry_unserved (e := .linkError .frameLength) free rfl
    refine ⟨s.newEntry (.linkError .frameLength), ?_, only, by rw [taken]; rfl⟩
    rw [← State.receive_of_makesEntry hunting (.inr (.inl ⟨length, bad, rfl, rfl⟩)), ← execAll_byteReceived]
    rfl

/-- Settles O9: the frame becomes an entry that fails the link's own tests, so that no block serves it. -/
theorem undefinedRequestsAreRefused : Obligations.UndefinedRequestsAreRefused := by
  unfold Obligations.UndefinedRequestsAreRefused
  intro s kind payload hunting free short undefined
  obtain ⟨only, taken⟩ := State.newEntry_unserved free (answer_of_not_mem_kindTable undefined s)
  refine ⟨s.newEntry (.request kind payload), ?_, only, by rw [taken]; rfl⟩
  rw [execAll_byteReceived, State.receive_of_makesEntry hunting (.inr (.inr ⟨kind, payload, short, rfl, rfl⟩))]

/-- Settles O11: an entry that finds the hand taken waits or is discarded, whatever it is; the end of a reply takes the
waiting one as a new entry. -/
theorem entriesAreTakenInTurn : Obligations.EntriesAreTakenInTurn := by
  unfold Obligations.EntriesAreTakenInTurn
  intro s
  refine ⟨fun c request busy room => ?_, fun c request busy full => ?_, fun bytes e makes hunting busy => ⟨?_, ?_⟩,
    fun busy empty => ?_, fun c request busy waits => ?_, fun err busy waits => ?_,
    fun kind payload undefined busy waits => ?_, fun free => ?_⟩
  · rw [exec_eq_newEntry request, State.newEntry_waits busy room]
  · rw [exec_eq_newEntry request, State.newEntry_discarded busy full]
  · intro room
    rw [execAll_byteReceived, State.receive_of_makesEntry hunting makes, State.newEntry_waits busy room]
  · intro full
    rw [execAll_byteReceived, State.receive_of_makesEntry hunting makes, State.newEntry_discarded busy full]
  · exact congrArg Host.Outcome.next (State.endReply_empties busy empty)
  · rw [exec_eq_newEntry request]
    exact congrArg Host.Outcome.next (State.endReply_takes busy waits)
  · refine congrArg Host.Outcome.next ((State.endReply_takes busy waits).trans ?_)
    refine (State.newEntry_unserved (r := [err.code]) rfl rfl).2.trans ?_
    cases err <;> rfl
  · refine congrArg Host.Outcome.next ((State.endReply_takes busy waits).trans ?_)
    exact (State.newEntry_unserved rfl (answer_of_not_mem_kindTable undefined _)).2
  · exact congrArg Host.Outcome.next (State.endReply_of_free free)

/-- Settles O10: each clause is one arm of the receiver. -/
theorem receiverMoves : Obligations.ReceiverMoves := by
  unfold Obligations.ReceiverMoves
  intro s b
  refine ⟨fun hunting => ?_, fun waits low high => ?_, fun inBody => ?_, fun inCheck first => ?_, rfl, fun hunting => ?_,
    fun busy => ?_⟩
  · refine congrArg Host.Outcome.next ?_
    simp only [State.receive, hunting]
    rfl
  · refine congrArg Host.Outcome.next ?_
    simp only [State.receive, waits, low, high, and_self, if_true]
    rfl
  · refine congrArg Host.Outcome.next ?_
    simp only [State.receive, inBody, List.length_append, List.length_singleton]
    rfl
  · refine congrArg Host.Outcome.next ?_
    simp only [State.receive, inCheck, first]
    rfl
  · refine congrArg Host.Outcome.next ?_
    simp only [State.expireGap, hunting]
  · refine congrArg Host.Outcome.next ?_
    unfold State.expireGap
    split
    next hunting => exact absurd hunting busy
    all_goals rfl

end Sys2Proof.Machine

/-! SUPPORT. The timed events of a millisecond: each timer takes its event exactly when the event is due, and an event that
is taken makes no later one due and keeps none from being due (R16, R18, R55, R57, R64, R170; log 2 and 4). -/

namespace Sys2Proof.Machine

/-! ## Events one after another -/

/-- Events act one after another. -/
theorem execAll_events {l : List Instr} (h : ∀ c ∈ l, c.isRequest = false) (s : State) :
    execAll l s = .next (l.foldl State.event s) := by
  induction l generalizing s with
  | nil => rfl
  | cons c l ih =>
    obtain ⟨first, rest⟩ := List.forall_mem_cons.1 h
    rw [execAll, exec_of_event first]
    exact ih rest _

section Timers

variable (u : State)

open Classical in
/-- An event is taken if it was due in the state in which the millisecond's events begin. -/
noncomputable def State.takeDue (s : State) (c : Instr) : State := if Timely c u then s.event c else s

open Classical in
/-- Taking the due events of a list is acting by those that are due. -/
theorem foldl_takeDue (l : List Instr) (s : State) :
    l.foldl (State.takeDue u) s = (l.filter fun c => Timely c u).foldl State.event s := by
  rw [List.foldl_filter]
  simp only [decide_eq_true_eq]
  rfl

/-- Timers that each take their own due events, none disturbing another's, take the due events of all in their order. -/
theorem foldl_timers {α : Type} {timer : State → α → State} {events : α → List Instr} {Due : α → State → Prop}
    (acts : ∀ a s, Due a s → timer s a = (events a).foldl (State.takeDue u) s)
    (spares : ∀ a b s, a ≠ b → Due b s → Due b (timer s a)) {l : List α} (distinct : l.Nodup) {s : State}
    (due : ∀ a ∈ l, Due a s) : l.foldl timer s = (l.flatMap events).foldl (State.takeDue u) s := by
  induction l generalizing s with
  | nil => rfl
  | cons a l ih =>
    obtain ⟨fresh, distinct⟩ := List.nodup_cons.1 distinct
    obtain ⟨here, later⟩ := List.forall_mem_cons.1 due
    rw [List.foldl_cons, List.flatMap_cons, List.foldl_append, ← acts a s here]
    exact ih distinct fun b hb => spares a b s (fun same => fresh (same ▸ hb)) (later b hb)

end Timers

/-! ## Windows and on-times -/

/-- A press's recipe stands in a slot, and so lies in its ranges (R27, R28). -/
theorem RecipeLaw.inRanges {s : State} (law : RecipeLaw s) {p : PressId} {r : Recipe} (recipe : s.recipeOf p = some r) :
    r.inRanges := by
  unfold State.recipeOf at recipe
  split at recipe
  next u _ => exact law.1 u.slot r recipe
  next => cases recipe

theorem Recipe.inRanges.heaterWindow_le {r : Recipe} (h : r.inRanges) : r.heaterWindow ≤ 10000 := by
  obtain ⟨-, -, -, -, -, -, -, -, short, -⟩ := h
  exact short

theorem Press.startWindow_zone (x : Press) (start : Clock) (window : Nat) (z : ZoneId) :
    (x.startWindow start window).zones[z] =
      { x.zones[z] with applied := x.zones[z].pending, heater := decide (0 < onTimeMs x.zones[z].pending window) } :=
  Press.modZones_zone _ _ z

section Window

variable {s : State} {p : PressId} {start : Clock} {r : Recipe} (started : (s.press p).windowStart = some start)
  (recipe : s.recipeOf p = some r)
include started recipe

/-- A window starts heater_window ms after the one before (R55, R56). -/
theorem State.startWindow_eq :
    s.startWindow p = s.modPress p (Press.startWindow (laterBy start r.heaterWindow) r.heaterWindow) := by
  simp only [State.startWindow, started, recipe]

theorem State.startWindow_zone (z : ZoneId) : ((s.startWindow p).press p).zones[z] =
    { (s.press p).zones[z] with
        applied := (s.press p).zones[z].pending
        heater := decide (0 < onTimeMs (s.press p).zones[z].pending r.heaterWindow) } := by
  have press : (s.startWindow p).press p =
      (Press.startWindow (laterBy start r.heaterWindow) r.heaterWindow (s.press p)).drive := by
    rw [State.startWindow_eq started recipe, State.modPress_press_self]
  rw [press]
  exact Press.startWindow_zone _ _ _ z

/-- The end of an on-time turns the heater off, unless the on-time fills its window (R57; log 17). -/
theorem State.endOnTime_eq {z : ZoneId} (ends : onTimeMs (s.press p).zones[z].applied r.heaterWindow < r.heaterWindow) :
    s.endOnTime p z = s.modPress p (Press.modZone z fun q => { q with heater := false }) := by
  simp only [State.endOnTime, started, recipe]
  exact if_pos ends

end Window

/-! ## When the timers act -/

section Timer

variable (s : State) (p : PressId) (z : ZoneId)

theorem State.replyDue_iff : s.replyDue = true ↔ Timely .replyEnd s := by
  unfold State.replyDue Timely
  cases s.link.hand with
  | none => simp
  | some h =>
    simp only [notBefore, spanMs, Option.some.injEq, exists_eq_left']
    exact decide_eq_true_iff

theorem State.gapDue_iff : s.gapDue = true ↔ Timely .gapTimerExpiry s := by
  unfold State.gapDue Timely
  cases s.link.receiver.gapFrom with
  | none => simp
  | some start => simp [Config.gapLimit]

theorem State.countdownDue_iff : s.countdownDue = true ↔ Timely .permitCountdownStep s := by
  simp [State.countdownDue, Timely]

open Classical in
theorem State.strokeTimer_eq : s.strokeTimer p =
    if Timely (.delayEnd p) s then s.endDelay p else if Timely (.pulseEnd p) s then s.endPulse p else s := by
  unfold State.strokeTimer Timely
  cases stroke : (s.press p).stroke with
  | none => simp [stroke]
  | some phase => cases phase <;> simp [stroke]

open Classical in
theorem State.windowTimer_eq : s.windowTimer p = if Timely (.windowStart p) s then s.startWindow p else s := by
  unfold State.windowTimer Timely
  cases start : (s.press p).windowStart with
  | none => simp [start]
  | some start' =>
    cases recipe : s.recipeOf p with
    | none => simp [recipe]
    | some r => simp [start, recipe]

/-- An on-time that fills its window does not end in it, and the timer leaves it (R57; log 17). -/
theorem State.endOnTime_of_fills {r : Recipe} (recipe : s.recipeOf p = some r)
    (fills : ¬(s.press p).zones[z].applied * r.heaterWindow / 1000 < r.heaterWindow) : s.endOnTime p z = s := by
  unfold State.endOnTime
  cases (s.press p).windowStart with
  | none => rfl
  | some start => simp only [recipe]; exact if_neg fills

open Classical in
theorem State.onTimeTimer_eq : s.onTimeTimer p z = if Timely (.onTimeEnd p z) s then s.endOnTime p z else s := by
  unfold State.onTimeTimer Timely
  cases started : (s.press p).windowStart with
  | none => simp [started]
  | some start =>
    cases recipe : s.recipeOf p with
    | none => simp [recipe]
    | some r =>
      simp only [started, recipe, Option.some.injEq, exists_and_left, exists_eq_left', onTimeMs]
      by_cases ends : (s.press p).zones[z].applied * r.heaterWindow / 1000 < r.heaterWindow
      · simp only [ends, true_and]
        exact if_congr Iff.rfl rfl rfl
      · simp only [s.endOnTime_of_fills p z recipe ends, ite_self]

end Timer

/-! ## What the timed events of a press rest on -/

section Rests

variable {s t : State} {p : PressId}

/-- A press's stroke ends its phase by the clock alone. -/
theorem timely_stroke_congr (clock : t.clock = s.clock) (stroke : (t.press p).stroke = (s.press p).stroke) :
    (Timely (.delayEnd p) t ↔ Timely (.delayEnd p) s) ∧ (Timely (.pulseEnd p) t ↔ Timely (.pulseEnd p) s) := by
  simp only [Timely, clock, stroke, and_self]

theorem timely_windowStart_congr (clock : t.clock = s.clock) (recipe : t.recipeOf p = s.recipeOf p)
    (start : (t.press p).windowStart = (s.press p).windowStart) :
    Timely (.windowStart p) t ↔ Timely (.windowStart p) s := by
  simp only [Timely, clock, recipe, start]

theorem timely_onTimeEnd_congr {z : ZoneId} (clock : t.clock = s.clock) (recipe : t.recipeOf p = s.recipeOf p)
    (start : (t.press p).windowStart = (s.press p).windowStart) (zone : (t.press p).zones[z] = (s.press p).zones[z]) :
    Timely (.onTimeEnd p z) t ↔ Timely (.onTimeEnd p z) s := by
  simp only [Timely, clock, recipe, start, zone]

/-- The heater drive of a press: its windows, its zones and its setup, and the recipes and the clock. -/
structure SameDrive (s t : State) (p : PressId) : Prop where
  clock : t.clock = s.clock
  recipes : t.recipes = s.recipes
  heat : t.heat = s.heat
  setup : (t.press p).setup = (s.press p).setup
  start : (t.press p).windowStart = (s.press p).windowStart
  zones : (t.press p).zones = (s.press p).zones

theorem SameDrive.trans {v : State} (h : SameDrive s t p) (k : SameDrive t v p) : SameDrive s v p :=
  ⟨k.clock.trans h.clock, k.recipes.trans h.recipes, k.heat.trans h.heat, k.setup.trans h.setup, k.start.trans h.start,
    k.zones.trans h.zones⟩

theorem SameDrive.refl (s : State) (p : PressId) : SameDrive s s p := ⟨rfl, rfl, rfl, rfl, rfl, rfl⟩

theorem SameDrive.recipe (h : SameDrive s t p) : t.recipeOf p = s.recipeOf p := State.recipeOf_congr h.setup h.recipes

/-- The drives of all presses, with the recipes, the clock and the heat permit unit. -/
theorem SameDrive.of_press (clock : t.clock = s.clock) (recipes : t.recipes = s.recipes) (heat : t.heat = s.heat)
    (press : t.press p = s.press p) : SameDrive s t p :=
  ⟨clock, recipes, heat, by rw [press], by rw [press], by rw [press]⟩

theorem SameDrive.windowStart (h : SameDrive s t p) : Timely (.windowStart p) t ↔ Timely (.windowStart p) s :=
  timely_windowStart_congr h.clock h.recipe h.start

theorem SameDrive.onTimeEnd (h : SameDrive s t p) (z : ZoneId) : Timely (.onTimeEnd p z) t ↔ Timely (.onTimeEnd p z) s :=
  timely_onTimeEnd_congr h.clock h.recipe h.start (by rw [h.zones])

theorem SameDrive.foldl {α : Type} {act : State → α → State} (h : ∀ s a, SameDrive s (act s a) p) (l : List α) (s : State) :
    SameDrive s (l.foldl act s) p := by
  induction l generalizing s with
  | nil => exact .refl s p
  | cons a l ih => exact (h s a).trans (ih _)

theorem SameDrive.gapTaken (s : State) : SameDrive s s.gapTaken p := by
  unfold State.gapTaken State.expireGap
  split
  · split <;> exact ⟨rfl, rfl, rfl, rfl, rfl, rfl⟩
  · exact .refl s p

/-! ## What each timed event leaves of the others -/

/-- The end of a stroke's phase changes its press alone, and nothing of its drive. -/
theorem State.strokeTimer_spec (s : State) (q : PressId) :
    s.strokeTimer q = s ∨ ∃ f : Press → Press, s.strokeTimer q = (s.modPress q f).settle ∧
      ∀ x, (f x).setup = x.setup ∧ (f x).windowStart = x.windowStart ∧ (f x).zones = x.zones := by
  have delay : s.endDelay q = s ∨ ∃ f : Press → Press, s.endDelay q = (s.modPress q f).settle ∧
      ∀ x, (f x).setup = x.setup ∧ (f x).windowStart = x.windowStart ∧ (f x).zones = x.zones := by
    unfold State.endDelay
    split
    · exact .inr ⟨_, rfl, fun x => ⟨rfl, rfl, rfl⟩⟩
    · exact .inl rfl
  have pulse : s.endPulse q = s ∨ ∃ f : Press → Press, s.endPulse q = (s.modPress q f).settle ∧
      ∀ x, (f x).setup = x.setup ∧ (f x).windowStart = x.windowStart ∧ (f x).zones = x.zones := by
    unfold State.endPulse
    split
    · exact .inr ⟨_, rfl, fun x => ⟨rfl, rfl, rfl⟩⟩
    · exact .inl rfl
  rw [State.strokeTimer_eq]
  split
  · exact delay
  · split
    · exact pulse
    · exact .inl rfl

theorem State.strokeTimer_press_ne (s : State) {q : PressId} (other : p ≠ q) : (s.strokeTimer q).press p = s.press p := by
  rcases s.strokeTimer_spec q with same | ⟨f, moved, -⟩
  · rw [same]
  · rw [moved, State.settle_press, State.modPress_press_ne _ _ _ _ other]

theorem SameDrive.strokeTimer (s : State) (q : PressId) : SameDrive s (s.strokeTimer q) p := by
  rcases s.strokeTimer_spec q with same | ⟨f, moved, keeps⟩
  · rw [same]; exact .refl s p
  · rw [moved]
    by_cases same : p = q
    · subst same
      obtain ⟨setup, start, zones⟩ := keeps (s.press p)
      exact ⟨rfl, rfl, rfl, by simpa using setup, by simpa using start, by simpa using zones⟩
    · exact .of_press rfl rfl rfl (State.modPress_press_ne _ _ _ _ same)

/-- A window that starts changes its press alone. -/
theorem SameDrive.windowTimer_ne (s : State) {q : PressId} (other : p ≠ q) : SameDrive s (s.windowTimer q) p := by
  rw [State.windowTimer_eq]
  split
  · unfold State.startWindow
    split
    · exact .of_press rfl rfl rfl (State.modPress_press_ne _ _ _ _ other)
    · exact .refl s p
  · exact .refl s p

/-- Every heater window of a recipe lasts 10 s at most (R28). -/
def WindowsFit (s : State) : Prop := ∀ p r, s.recipeOf p = some r → r.heaterWindow ≤ 10000

/-- Two times within a window of 10 s are told apart by the clock (7.3). -/
theorem laterBy_inj {t : Clock} {a b : Nat} (ha : a ≤ 10000) (hb : b ≤ 10000) (h : laterBy t a = laterBy t b) : a = b := by
  unfold laterBy at h
  have same := congrArg BitVec.toNat (add_left_cancel h)
  simp only [BitVec.toNat_ofNat] at same
  omega

/-- A window that starts makes no on-time end due and keeps none from being due: an on-time ends before its window does, and
after its start (R55, R57). -/
theorem State.windowTimer_onTimeEnd (s : State) (q : PressId) (z : ZoneId) (fit : WindowsFit s) :
    Timely (.onTimeEnd p z) (s.windowTimer q) ↔ Timely (.onTimeEnd p z) s := by
  by_cases other : p ≠ q
  · exact (SameDrive.windowTimer_ne s other).onTimeEnd z
  obtain rfl := not_not.1 other
  rw [State.windowTimer_eq]
  split
  next due =>
    obtain ⟨start, r, started, recipe, now⟩ := due
    have short := fit p r recipe
    refine iff_of_false ?_ ?_
    · rintro ⟨start', r', started', recipe', heats, ends, now'⟩
      have clock : laterBy start r.heaterWindow = (s.startWindow p).clock := by
        rw [State.startWindow_eq started recipe]; exact now
      have next' : ((s.startWindow p).press p).windowStart = some (laterBy start r.heaterWindow) := by
        rw [State.startWindow_eq started recipe, State.modPress_press_self]; rfl
      have same : (s.startWindow p).recipeOf p = some r := by
        rw [State.startWindow_eq started recipe, State.recipeOf_modPress s p p _ rfl, recipe]
      obtain rfl := Option.some.inj (same.symm.trans recipe')
      obtain rfl := Option.some.inj (next'.symm.trans started')
      rw [State.startWindow_zone started recipe] at heats ends now'
      have above : 0 < onTimeMs (s.press p).zones[z].pending r.heaterWindow := of_decide_eq_true heats
      have atOnce := laterBy_inj (b := 0) (by omega) (by omega)
        ((now'.trans clock.symm).trans (by simp [laterBy] : laterBy start r.heaterWindow = laterBy _ 0))
      exact absurd atOnce above.ne'
    · rintro ⟨start', r', started', recipe', -, ends, now'⟩
      obtain rfl := Option.some.inj (started.symm.trans started')
      obtain rfl := Option.some.inj (recipe.symm.trans recipe')
      have same := laterBy_inj (by omega) short (now'.trans now.symm)
      omega
  next => rfl

/-- Windows and on-times move no press to another recipe. -/
theorem State.windowTimer_recipeOf (s : State) (q : PressId) : (s.windowTimer q).recipeOf p = s.recipeOf p := by
  rw [State.windowTimer_eq]
  split
  · unfold State.startWindow
    split
    · exact State.recipeOf_modPress s q p _ rfl
    · rfl
  · rfl

theorem State.foldl_windowTimer_onTimeEnd (l : List PressId) (s : State) (z : ZoneId) (fit : WindowsFit s) :
    Timely (.onTimeEnd p z) (l.foldl State.windowTimer s) ↔ Timely (.onTimeEnd p z) s := by
  induction l generalizing s with
  | nil => rfl
  | cons q l ih =>
    have fits : WindowsFit (s.windowTimer q) := fun p r recipe => fit p r (State.windowTimer_recipeOf s q ▸ recipe)
    exact (ih _ fits).trans (s.windowTimer_onTimeEnd q z fit)

/-- An on-time that ends changes its zone alone. -/
theorem State.onTimeTimer_onTimeEnd (s : State) {q : PressId} {y z : ZoneId} (other : p = q → z ≠ y) :
    Timely (.onTimeEnd p z) (s.onTimeTimer q y) ↔ Timely (.onTimeEnd p z) s := by
  rw [State.onTimeTimer_eq]
  split
  next due =>
    obtain ⟨start, r, started, recipe, -, ends, -⟩ := due
    rw [State.endOnTime_eq started recipe ends]
    by_cases same : p = q
    · subst same
      refine timely_onTimeEnd_congr rfl (State.recipeOf_modPress s p p _ rfl) (by simp [Press.modZone]) ?_
      rw [State.modPress_press_self]
      exact Press.modZone_zone_ne (s.press p) y z (fun q => { q with heater := false }) (other rfl)
    · refine SameDrive.onTimeEnd ?_ z
      exact .of_press rfl rfl rfl (State.modPress_press_ne _ _ _ _ same)
  next => rfl

/-- Windows and on-times change presses alone. -/
theorem State.windowTimer_onlyChanges (s : State) (q : PressId) : OnlyChanges [.presses] s (s.windowTimer q) := by
  rw [State.windowTimer_eq]
  split
  · unfold State.startWindow
    split
    · exact .modPress s _ _
    · exact .refl s
  · exact .refl s

theorem State.onTimeTimer_onlyChanges (s : State) (q : PressId) (z : ZoneId) :
    OnlyChanges [.presses] s (s.onTimeTimer q z) := by
  rw [State.onTimeTimer_eq]
  split
  · unfold State.endOnTime
    split
    · split
      · exact .modPress s _ _
      · exact .refl s
    · exact .refl s
  · exact .refl s

theorem OnlyChanges.foldl {α : Type} {blocks : List Block} {act : State → α → State}
    (h : ∀ s a, OnlyChanges blocks s (act s a)) (l : List α) (s : State) : OnlyChanges blocks s (l.foldl act s) := by
  induction l generalizing s with
  | nil => exact .refl s
  | cons a l ih => exact (h s a).trans (ih _)

end Rests

/-! ## The stages of a millisecond -/

section Stages

variable {u s : State}

open Classical in
theorem State.strokesTaken_eq (clock : s.clock = u.clock) (strokes : ∀ p, (s.press p).stroke = (u.press p).stroke) :
    s.strokesTaken = (allPresses.flatMap fun p => [.delayEnd p, .pulseEnd p]).foldl (State.takeDue u) s := by
  refine foldl_timers u (Due := fun p s => s.clock = u.clock ∧ (s.press p).stroke = (u.press p).stroke)
    (fun p s due => ?_) (fun q p s other due => ?_) allPresses_nodup fun p _ => ⟨clock, strokes p⟩
  · obtain ⟨delay, pulse⟩ := timely_stroke_congr due.1 due.2
    rw [State.strokeTimer_eq, List.foldl_cons, List.foldl_cons, List.foldl_nil, State.takeDue, State.takeDue]
    by_cases ends : Timely (.delayEnd p) u
    · have one : ¬Timely (.pulseEnd p) u := fun ⟨start, contact, later⟩ => by
        have both := Option.some.inj (Eq.trans (Eq.symm ends) later)
        cases both
      rw [if_pos (delay.2 ends), if_neg one, if_pos ends]
      rfl
    · rw [if_neg (fun h => ends (delay.1 h)), if_neg ends]
      exact if_congr pulse rfl rfl
  · exact ⟨(SameDrive.strokeTimer (p := p) s q).clock.trans due.1, by
      rw [State.strokeTimer_press_ne s other.symm]; exact due.2⟩

open Classical in
theorem State.windowsTaken_eq (due : ∀ p, Timely (.windowStart p) s ↔ Timely (.windowStart p) u) :
    s.windowsTaken = (allPresses.map Instr.windowStart).foldl (State.takeDue u) s := by
  rw [List.map_eq_flatMap]
  refine foldl_timers u (Due := fun p s => Timely (.windowStart p) s ↔ Timely (.windowStart p) u)
    (fun p s due => ?_) (fun q p s other due => ?_) allPresses_nodup fun p _ => due p
  · rw [State.windowTimer_eq]
    exact if_congr due rfl rfl
  · exact (SameDrive.windowTimer_ne s other.symm).windowStart.trans due

open Classical in
theorem State.onTimesTaken_eq (due : ∀ p z, Timely (.onTimeEnd p z) s ↔ Timely (.onTimeEnd p z) u) :
    s.onTimesTaken = (allPresses.flatMap fun p => allZones.map (Instr.onTimeEnd p)).foldl (State.takeDue u) s := by
  have zones (p : PressId) (s : State) (due : ∀ z, Timely (.onTimeEnd p z) s ↔ Timely (.onTimeEnd p z) u) :
      allZones.foldl (State.onTimeTimer p) s = (allZones.map (Instr.onTimeEnd p)).foldl (State.takeDue u) s := by
    rw [List.map_eq_flatMap]
    refine foldl_timers u (Due := fun z s => Timely (.onTimeEnd p z) s ↔ Timely (.onTimeEnd p z) u)
      (fun z s due => ?_) (fun y z s other due => ?_) (List.nodup_finRange 8) fun z _ => due z
    · rw [State.onTimeTimer_eq]
      exact if_congr due rfl rfl
    · exact (State.onTimeTimer_onTimeEnd s fun _ => other.symm).trans due
  refine foldl_timers u (Due := fun p s => ∀ z, Timely (.onTimeEnd p z) s ↔ Timely (.onTimeEnd p z) u)
    zones (fun q p s other due z => ?_) allPresses_nodup fun p _ => due p
  refine Iff.trans ?_ (due z)
  clear due
  generalize allZones = l
  induction l generalizing s with
  | nil => rfl
  | cons y l ih => exact (ih _).trans (State.onTimeTimer_onTimeEnd s fun same => absurd same other.symm)

open Classical in
/-- The timed events of a millisecond are those due as they begin, in their order (log 2 and 4). -/
theorem State.timers_eq (fit : WindowsFit u) :
    u.gapTaken.strokesTaken.windowsTaken.onTimesTaken.countdownTaken = timedEvents.foldl (State.takeDue u) u := by
  have gap (p : PressId) : SameDrive u u.gapTaken p := .gapTaken u
  have strokes (p : PressId) : SameDrive u u.gapTaken.strokesTaken p := (gap p).trans (.foldl .strokeTimer _ _)
  have phases (p : PressId) : (u.gapTaken.press p).stroke = (u.press p).stroke := by
    unfold State.gapTaken State.expireGap
    split
    · split <;> rfl
    · rfl
  have fits : WindowsFit u.gapTaken.strokesTaken := fun p r recipe => fit p r ((strokes p).recipe ▸ recipe)
  have onTimes (p : PressId) (z : ZoneId) :
      Timely (.onTimeEnd p z) u.gapTaken.strokesTaken.windowsTaken ↔ Timely (.onTimeEnd p z) u :=
    (State.foldl_windowTimer_onTimeEnd _ _ z fits).trans ((strokes p).onTimeEnd z)
  have same : Timely .permitCountdownStep u.gapTaken.strokesTaken.windowsTaken.onTimesTaken ↔ Timely .permitCountdownStep u := by
    have moved : OnlyChanges [.presses] u.gapTaken.strokesTaken u.gapTaken.strokesTaken.windowsTaken.onTimesTaken :=
      (OnlyChanges.foldl State.windowTimer_onlyChanges _ _).trans
        (.foldl (fun s p => .foldl (fun s z => s.onTimeTimer_onlyChanges p z) _ s) _ _)
    obtain ⟨clock, -, -⟩ := moved.2 .clock (by decide)
    have heat := moved.2 .heat (by decide)
    simp only [Timely, State.keeps] at heat ⊢
    rw [clock, heat, (strokes 0).clock, (strokes 0).heat]
  unfold timedEvents
  rw [List.cons_append, List.cons_append, List.cons_append, List.foldl_cons, List.foldl_append, List.foldl_append,
    List.foldl_append]
  have first : State.takeDue u u .gapTimerExpiry = u.gapTaken := if_congr u.gapDue_iff.symm rfl rfl
  rw [first, ← State.strokesTaken_eq (gap 0).clock phases, ← State.windowsTaken_eq fun p => (strokes p).windowStart,
    ← State.onTimesTaken_eq onTimes]
  exact if_congr ((State.countdownDue_iff _).trans same) rfl rfl

end Stages

/-- Settles O2: the reply end that is due, then the due timed events in the order of the timers, then the clock. -/
theorem idleStepPassesAMillisecond : Obligations.IdleStepPassesAMillisecond := by
  classical
  unfold Obligations.IdleStepPassesAMillisecond
  intro s idle
  have stepped : step s = .next s.tick := by simp only [step, idle]
  refine ⟨⟨s.tick, stepped, ?_⟩, fun u ends stays law => ?_⟩
  · have kept := Endures.runTimers s
    rw [State.tick]
    generalize s.runTimers = v at kept
    obtain ⟨clock, scanPhase, loadPhase⟩ := kept.frame.2 .clock (by decide)
    refine ⟨kept.frame.1.trans idle, congrArg (· + 1) clock, congrArg (· + 1) scanPhase, ?_⟩
    exact congrArg nextLoadPhase loadPhase
  · have reply : u = s.replyTaken := by
      unfold State.replyTaken
      by_cases due : Timely .replyEnd s
      · rw [if_pos (s.replyDue_iff.2 due)]
        exact (Host.Outcome.next.inj (ends due)).symm
      · rw [if_neg (fun h => due (s.replyDue_iff.1 h))]
        exact stays due
    have fit : WindowsFit u := fun p r recipe => (law.1.inRanges recipe).heaterWindow_le
    have events : ∀ c ∈ timedEvents.filter fun c => Timely c u, c.isRequest = false := by
      have all : ∀ c ∈ timedEvents, c.isRequest = false := by decide
      exact fun c hc => all c (List.mem_of_mem_filter hc)
    refine ⟨timedEvents.filter fun c => Timely c u, _, List.filter_sublist,
      fun c timed => by simp [timed], execAll_events events u, ?_⟩
    rw [stepped, State.tick, State.runTimers_eq, ← reply, State.timers_eq fit, foldl_takeDue,
      State.advance_eq]

end Sys2Proof.Machine

/-! SUPPORT. The events and requests that change one press: what each makes of that press, and the statements on the edges,
the ejector and the input filters (1.1, 1.4..1.6, R1..R3, R11..R20). -/

namespace Sys2Proof.Machine

/-! ## The pins of a press -/

/-- A press whose pins follow R3, its forced level off where nothing reads it. -/
structure Press.Pinned (x : Press) : Prop where
  openPermit : x.openPermit = (x.state == .demouldDue)
  ejector : x.ejector = x.ejectorLevel
  forced : x.forced = (x.forced && x.state.allowsForce)

theorem PinLaw.pinned {s : State} (h : PinLaw s) (p : PressId) : (s.press p).Pinned where
  openPermit := (congrArg Press.openPermit (h.drive_eq p)).symm
  ejector := (congrArg Press.ejector (h.drive_eq p)).symm
  forced := by
    obtain ⟨-, -, allows⟩ := h p
    cases on : (s.press p).forced with
    | false => rfl
    | true => rcases allows on with st | st <;> simp [st, PressState.allowsForce]

/-- A press with its pins that drives them again is as it was. -/
theorem Press.Pinned.drive_eq {x : Press} (h : x.Pinned) : x.drive = x := by
  obtain ⟨openPermit, ejector, -⟩ := h
  cases x
  simp_all [Press.drive, Press.ejectorLevel]

/-- A press changed in nothing that its pins follow drives them as it did. -/
theorem Press.Pinned.drive_of_same {x y : Press} (h : x.Pinned) (state : y.state = x.state := by rfl)
    (stroke : y.stroke = x.stroke := by rfl) (forced : y.forced = x.forced := by rfl)
    (openPermit : y.openPermit = x.openPermit := by rfl) (ejector : y.ejector = x.ejector := by rfl) : y.drive = y := by
  refine Press.Pinned.drive_eq ⟨?_, ?_, ?_⟩
  · rw [openPermit, state, h.openPermit]
  · rw [ejector, h.ejector, Press.ejectorLevel, Press.ejectorLevel, state, stroke, forced]
  · rw [forced, state, ← h.forced]

/-- Outside OFFLINE, HEATING, DEMOULD_DUE and EJECTING a press has both outputs and the forced level off (R3). -/
theorem Press.Pinned.quiet {x : Press} (h : x.Pinned) (force : x.state.allowsForce = false) (due : x.state ≠ .demouldDue)
    (ejects : x.state ≠ .ejecting) : x.openPermit = false ∧ x.ejector = false ∧ x.forced = false := by
  have forced : x.forced = false := by rw [h.forced, force, Bool.and_false]
  refine ⟨by rw [h.openPermit]; simpa using due, ?_, forced⟩
  rw [h.ejector]
  simp [Press.ejectorLevel, ejects, forced]

/-! ## Events of one press -/

section OnePress

variable {s : State} {p : PressId} {f : Press → Press} {y : Press}

/-- An event that changes one press and hands on its conditions. -/
theorem exec_modPress {c : Instr} (event : c.isRequest = false) (acts : s.event c = (s.modPress p f).settle)
    (becomes : (f (s.press p)).drive = y) :
    ∃ t, exec c s = .next t ∧ OnlyChanges [.presses, .attention] s t ∧ OnlyPress p s t ∧ HandsOn s t ∧ t.press p = y := by
  refine ⟨(s.modPress p f).settle, by rw [exec_of_event event, acts], ?_, .modPress s p f, State.settle_handsOn rfl, ?_⟩
  · exact ((OnlyChanges.modPress s p f).mono (by simp)).settle (by simp)
  · rw [State.settle_press, State.modPress_press_self, becomes]

/-- A request that changes one press, hands on its conditions and is answered. -/
theorem serve_modPress {c : Instr} {r : Reply} (request : c.isRequest = true) (free : s.link.hand = none)
    (acts : serve c s = ((s.modPress p f).settle, r)) (becomes : (f (s.press p)).drive = y) :
    ∃ t, exec c s = .next t ∧ OnlyChanges [.presses, .attention, .link] s t ∧ OnlyPress p s t ∧ HandsOn s t ∧
      Answers c r s t ∧ t.press p = y := by
  refine ⟨(s.modPress p f).settle.putInHand (requestEntry c) r,
    by rw [exec_of_isRequest request, State.request_of_free _ free, acts], ?_, ?_,
    (State.settle_handsOn rfl).putInHand _ _, State.putInHand_answers c r rfl, ?_⟩
  · exact (((OnlyChanges.modPress s p f).mono (by simp)).settle (by simp)).putInHand _ _ (by simp)
  · exact OnlyPress.modPress s p f
  · rw [State.putInHand_press, State.settle_press, State.modPress_press_self, becomes]

/-- A request that changes one press and its place in the scale queue, hands on its conditions and is answered. -/
theorem serve_seat {c : Instr} {r : Reply} {queue : List PressId} (request : c.isRequest = true) (free : s.link.hand = none)
    (acts : serve c s = ((s.seat p y queue).settle, r)) :
    ∃ t, exec c s = .next t ∧ OnlyChanges [.presses, .scale, .attention, .link] s t ∧ OnlyPress p s t ∧ HandsOn s t ∧
      Answers c r s t ∧ t.press p = y ∧ t.scale = { s.scale with queue := queue } := by
  refine ⟨(s.seat p y queue).settle.putInHand (requestEntry c) r,
    by rw [exec_of_isRequest request, State.request_of_free _ free, acts], ?_, ?_,
    (State.settle_handsOn rfl).putInHand _ _, State.putInHand_answers c r rfl, ?_, rfl⟩
  · exact (((OnlyChanges.seat s p y queue).mono (by simp)).settle (by simp)).putInHand _ _ (by simp)
  · exact OnlyPress.seat s p y queue
  · rw [State.putInHand_press, State.settle_press, State.seat_press_self]

end OnePress

/-! ## The ejector -/

section Ejector

variable {s : State} {p : PressId} {r : Recipe}

theorem State.pulseNow_eq (recipe : s.recipeOf p = some r) :
    s.pulseNow p = .pulse (laterBy s.clock r.ejectWidth) s.clock false := by
  simp only [State.pulseNow, State.ejectWidth, recipe]

theorem State.openingStroke_eq (recipe : s.recipeOf p = some r) :
    s.openingStroke p = if r.ejectDelay = 0 then .pulse (laterBy s.clock r.ejectWidth) s.clock false
      else .delay (laterBy s.clock r.ejectDelay) := by
  simp only [State.openingStroke, State.ejectDelay, recipe, State.pulseNow_eq recipe]

/-- Settles O19: a retry starts a pulse in EJECTING, a forced level is read in OFFLINE and HEATING. -/
theorem ejectorRequestsDriveTheEjector : Obligations.EjectorRequestsDriveTheEjector := by
  unfold Obligations.EjectorRequestsDriveTheEjector
  rintro s p x law free rfl
  have pins := law.pinned p
  refine ⟨fun c r st context recipe => ?retry, fun on st => ?force⟩
  case retry =>
    have quiet := pins.quiet (by rw [st]; rfl) (by simp [st]) (by simp [st])
    refine serve_modPress (by rfl) free (f := fun x =>
      { (x.onContext (CycleContext.onPanel PanelRecord.retried)).enter .ejecting with stroke := some (s.pulseNow p) }) ?_ ?_
    · simp only [serve, serveEjectRetry, withPress_numberByte, st, ne_eq, not_true_eq_false, if_false, stateReplyOf]
      rw [State.settle_press, State.modPress_press_self]
      rfl
    · rw [State.pulseNow_eq recipe]
      simp [Press.drive, Press.enter, Press.onContext, Press.ejectorLevel, context, quiet, CycleContext.onPanel]
      rfl
  case force =>
    have allows : (s.press p).state.allowsForce = true := by rcases st with st | st <;> rw [st] <;> rfl
    refine serve_modPress (by rfl) free (f := fun x => { x with forced := on }) ?_ ?_
    · have bit : bitOf (if on then 1 else 0) = some on := by cases on <;> rfl
      simp only [serve, serveEjectForce, withPress_numberByte, bit, allows, if_true]
      rfl
    · have ejects : (s.press p).state ≠ .ejecting := by rcases st with st | st <;> simp [st]
      simp [Press.drive, Press.ejectorLevel, allows, ejects, pins.openPermit]

/-- The end of a delay starts the pulse (R16). -/
theorem State.endDelay_eq {ends : Clock} (st : (s.press p).state = .ejecting) (stroke : (s.press p).stroke = some (.delay ends)) :
    s.endDelay p = (s.modPress p fun x => { x with stroke := some (s.pulseNow p) }).settle := by
  simp only [State.endDelay, st, stroke]

/-- The end of a pulse leaves EJECTING, by the contact (R18). -/
theorem State.endPulse_eq {ends start : Clock} {contact : Bool} (st : (s.press p).state = .ejecting)
    (stroke : (s.press p).stroke = some (.pulse ends start contact)) :
    s.endPulse p =
      (s.modPress p fun x => { x.enter (if contact then .unloadWait else .ejectFault) with stroke := none }).settle := by
  simp only [State.endPulse, st, stroke]

/-- Settles O26: the end of a phase is the end of the stroke's phase in EJECTING. -/
theorem strokePhasesEnd : Obligations.StrokePhasesEnd := by
  unfold Obligations.StrokePhasesEnd
  rintro s p x law rfl
  have pins := law.pinned p
  refine ⟨fun ends r st stroke recipe => ?_, fun ends start contact st stroke => ?_, fun none => ?_, fun none => ?_⟩
  · refine exec_modPress (by rfl) (f := fun x => { x with stroke := some (s.pulseNow p) }) ?_ ?_
    · exact State.endDelay_eq st stroke
    · rw [State.pulseNow_eq recipe]
      simp [Press.drive, Press.ejectorLevel, st, pins.openPermit]
  · refine exec_modPress (by rfl)
      (f := fun x => { x.enter (if contact then .unloadWait else .ejectFault) with stroke := Option.none }) ?_ ?_
    · exact State.endPulse_eq st stroke
    · have forced : (s.press p).forced = false := by rw [pins.forced, st]; simp [PressState.allowsForce]
      cases contact <;> simp [Press.drive, Press.enter, Press.ejectorLevel, st, pins.openPermit, forced]
  · refine congrArg Host.Outcome.next ?_
    unfold State.endDelay
    split
    next ends st stroke => exact absurd ⟨st, ends, stroke⟩ none
    next => rfl
  · refine congrArg Host.Outcome.next ?_
    unfold State.endPulse
    split
    next ends start contact st stroke => exact absurd ⟨st, ends, start, contact, stroke⟩ none
    next => rfl

end Ejector

/-! ## The edges -/

section Edges

variable {s : State} {p : PressId} {t : Clock}

theorem Press.capture_state (input : PressInput) (rise : Bool) (t : Clock) (x : Press) :
    (x.capture input rise t).state = x.state := by
  cases input <;> rfl

theorem Press.capture_setup (input : PressInput) (rise : Bool) (t : Clock) (x : Press) :
    (x.capture input rise t).setup = x.setup := by
  cases input <;> rfl

/-- A press that captured an edge reads the state and the recipe it read before. -/
theorem State.captured_state (input : PressInput) (rise : Bool) :
    ((s.modPress p (Press.capture input rise t)).press p).state = (s.press p).state := by
  rw [State.modPress_press_self]
  exact Press.capture_state input rise t _

theorem State.captured_recipeOf (input : PressInput) (rise : Bool) :
    (s.modPress p (Press.capture input rise t)).recipeOf p = s.recipeOf p :=
  State.recipeOf_modPress s p p _ (Press.capture_setup input rise t _)

/-- A CLOSED rise starts the cure of the press in CHARGE_READY, its setpoints following the profile (R11, R69). -/
theorem State.closedRise_starts (st : (s.press p).state = .chargeReady) : s.closedRise p t =
    (s.modPress p fun x =>
      (Press.close (s.recipeOf p) t (x.capture .closed true t)).withSetpoints (s.recipeOf p) s.heat.state).settle := by
  unfold State.closedRise
  simp only [State.captured_state, st, State.captured_recipeOf]
  rw [State.modPress_recompute rfl, State.modPress_modPress, State.captured_recipeOf]
  refine congrArg State.settle (State.modPress_congr_driven ?_)
  rfl

/-- A CLOSED rise in the states that R12 lists is flagged. -/
theorem State.closedRise_flags (st : (s.press p).state ≠ .chargeReady) (open' : (s.press p).state.isClosed = false) :
    s.closedRise p t = (s.modPress p fun x => { x.capture .closed true t with
      changes := { x.changes with unexpectedClose := true } }).settle := by
  unfold State.closedRise
  simp only [State.captured_state]
  cases at_ : (s.press p).state
  case chargeReady => exact absurd at_ st
  case curing => simp [at_, PressState.isClosed] at open'
  case demouldDue => simp [at_, PressState.isClosed] at open'
  all_goals exact congrArg State.settle ((State.modPress_modPress _ p _ _).trans (State.modPress_congr_driven rfl))

/-- A CLOSED fall opens the press that is closed, EARLY_OPEN being added from CURING (R14, R15). -/
theorem State.closedFall_opens (closed : (s.press p).state = .demouldDue ∨ (s.press p).state = .curing) :
    s.closedFall p t = (s.modPress p fun x =>
      (Press.openUp (decide ((s.press p).state = .curing)) (s.openingStroke p) t
        (x.capture .closed false t)).withSetpoints (s.recipeOf p) s.heat.state).settle := by
  have stroke : (s.modPress p (Press.capture .closed false t)).openingStroke p = s.openingStroke p := by
    simp only [State.openingStroke, State.ejectDelay, State.pulseNow, State.ejectWidth, State.captured_recipeOf,
      State.modPress_clock]
    rfl
  unfold State.closedFall
  simp only [State.captured_state, stroke]
  rcases closed with st | st
  all_goals
    rw [st]
    dsimp only
    rw [State.modPress_recompute rfl, State.modPress_modPress, State.captured_recipeOf]
    refine congrArg State.settle (State.modPress_congr_driven ?_)
    rfl

/-- A CLOSED fall elsewhere is captured alone (R15). -/
theorem State.closedFall_captures (curing : (s.press p).state ≠ .curing) (due : (s.press p).state ≠ .demouldDue) :
    s.closedFall p t = (s.modPress p (Press.capture .closed false t)).settle := by
  unfold State.closedFall
  simp only [State.captured_state]
  split
  next st => exact absurd st due
  next st => exact absurd st curing
  all_goals rfl

/-- Settles O22: a rise closes the press in CHARGE_READY, and is flagged outside CURING and DEMOULD_DUE. -/
theorem closedRiseStartsTheCure : Obligations.ClosedRiseStartsTheCure := by
  unfold Obligations.ClosedRiseStartsTheCure
  rintro s p x y captured law rfl rfl
  have pins := law.pinned p
  refine ⟨fun c r st context recipe => ?_, fun listed => ?_⟩
  · obtain ⟨openPermit, ejector, forced⟩ := pins.quiet (by rw [st]; rfl) (by simp [st]) (by simp [st])
    refine exec_modPress (by rfl) (State.closedRise_starts st) ?_
    simp only [recipe]
    simp [Press.drive, Press.withSetpoints, Press.close, Press.capture, Press.enter, Press.onContext, Press.ejectorLevel,
      InputFilter.delivered, context, openPermit, ejector, forced]
    rfl
  · refine exec_modPress (by rfl) (State.closedRise_flags ?_ ?_) ?_
    · rintro st; simp [st] at listed
    · rcases listed with st | st | st | st | st | st | st <;> rw [st] <;> rfl
    · exact pins.drive_of_same

/-- Settles O23: a fall opens a press in DEMOULD_DUE or CURING, with its stroke. -/
theorem closedFallOpensThePress : Obligations.ClosedFallOpensThePress := by
  unfold Obligations.ClosedFallOpensThePress
  rintro s p x c r captured law rfl context recipe closed
  have forced : (s.press p).forced = false := by
    rw [(law.pinned p).forced]
    rcases closed with st | st <;> simp [st, PressState.allowsForce]
  refine exec_modPress (by rfl) (State.closedFall_opens closed) ?_
  rw [State.openingStroke_eq recipe, recipe]
  simp [Press.drive, Press.withSetpoints, Press.openUp, Press.capture, Press.enter, Press.onContext, Press.ejectorLevel,
    InputFilter.delivered, context, forced]
  constructor
  · split
    next curing => simp [curing]
    next other => simp [other]
  · by_cases atOnce : r.ejectDelay = 0 <;> simp [atOnce]

/-- Contact is not recorded outside a pulse that waits for it, or before its start (R17). -/
theorem Press.recordContact_eq_self {x : Press} {t : Clock} (h : x.state ≠ .ejecting ∨
    ∀ ends start, x.stroke = some (.pulse ends start false) → 2147483648 ≤ (t - start).toNat) : x.recordContact t = x := by
  unfold Press.recordContact
  split
  next ends start st stroke =>
    rcases h with out | early
    · exact absurd st out
    · have after : notBefore t start = false := decide_eq_false (Nat.not_lt.2 (early ends start stroke))
      simp [after]
  next => rfl

/-- Contact is recorded whatever the levels of the outputs. -/
theorem Press.recordContact_drive (t : Clock) (x : Press) : (x.drive.recordContact t).drive = (x.recordContact t).drive := by
  obtain ⟨state, setup, closed, contact, partClear, captures, stroke, context⟩ := x
  unfold Press.recordContact Press.drive
  dsimp only
  split
  · split <;> rfl
  · rfl

/-- Contact is recorded in a pulse that waits for it, from its start on (R17). -/
theorem Press.recordContact_eq {x : Press} {t ends start : Clock} (st : x.state = .ejecting)
    (stroke : x.stroke = some (.pulse ends start false)) (after : (t - start).toNat < 2147483648) : x.recordContact t =
      { x.onContext (CycleContext.onPanel fun r => { r with contactDelay := some (t - start).toNat }) with
          stroke := some (.pulse ends start true) } := by
  have notEarly : notBefore t start = true := decide_eq_true after
  simp only [Press.recordContact, st, stroke, notEarly, if_true]
  rfl

/-- Settles O24: each of these edges is captured, and the sequencer does nothing with it. -/
theorem otherEdgesAreOnlyCaptured : Obligations.OtherEdgesAreOnlyCaptured := by
  unfold Obligations.OtherEdgesAreOnlyCaptured
  rintro s p x y edge captured law rfl which
  have pins := law.pinned p
  rcases which with ⟨rfl, curing, due, rfl⟩ | ⟨rfl, rfl⟩ | ⟨rfl, rfl⟩ | ⟨rfl, st, rfl⟩ | ⟨rfl, ignored, rfl⟩
  · exact exec_modPress (by rfl) (State.closedFall_captures curing due) pins.drive_of_same
  · exact exec_modPress (f := Press.capture .ejectContact false captured) (by rfl) rfl pins.drive_of_same
  · exact exec_modPress (f := Press.capture .partClear false captured) (by rfl) rfl pins.drive_of_same
  · refine exec_modPress (f := Press.capture .partClear true captured) (by rfl) ?_ pins.drive_of_same
    refine if_neg ?_
    rw [State.captured_state]
    exact st
  · refine exec_modPress (f := fun x => (x.capture .ejectContact true captured).recordContact captured) (by rfl) rfl ?_
    rw [Press.recordContact_eq_self (x := (s.press p).capture .ejectContact true captured) ignored]
    exact pins.drive_of_same

/-- Settles O25: a rise in the pulse is recorded as its contact. -/
theorem contactIsRecordedInThePulse : Obligations.ContactIsRecordedInThePulse := by
  unfold Obligations.ContactIsRecordedInThePulse
  rintro s p x c ends start captured law rfl context st stroke after
  have pins := law.pinned p
  refine exec_modPress (f := fun x => (x.capture .ejectContact true captured).recordContact captured) (by rfl) rfl ?_
  rw [Press.recordContact_eq (x := (s.press p).capture .ejectContact true captured) st stroke after]
  have ejector : (s.press p).ejector = true := by rw [pins.ejector]; simp [Press.ejectorLevel, st, stroke]
  simp [Press.drive, Press.capture, Press.onContext, CycleContext.onPanel, Press.ejectorLevel, InputFilter.delivered,
    context, st, pins.openPermit, ejector]

/-! ## The input filters -/

/-- An edge that is delivered after its filter changed is captured as without that change (R2). -/
theorem State.setFilter_capture (input : PressInput) (rise : Bool) (g : InputFilter) :
    (s.modPress p (Press.setFilter input g)).modPress p (Press.capture input rise t) =
      s.modPress p (Press.capture input rise t) := by
  rw [State.modPress_modPress]
  exact State.modPress_congr_driven (by cases input <;> rfl)

theorem State.deliverEdge_setFilter (input : PressInput) (rise : Bool) (g : InputFilter) :
    (s.modPress p (Press.setFilter input g)).deliverEdge p input rise t = s.deliverEdge p input rise t := by
  have captured := State.setFilter_capture (s := s) (p := p) (t := t) input rise g
  cases input <;> cases rise
  case closed.true => simp only [State.deliverEdge, State.closedRise, captured]
  case closed.false => simp only [State.deliverEdge, State.closedFall, captured]
  case ejectContact.true =>
    refine congrArg State.settle ?_
    rw [State.modPress_modPress]
    exact State.modPress_congr_driven (Press.recordContact_drive t ((s.press p).capture .ejectContact true t))
  case ejectContact.false => simp only [State.deliverEdge, State.contactFall, captured]
  case partClear.true => simp only [State.deliverEdge, State.clearRise, captured]
  case partClear.false => simp only [State.deliverEdge, State.clearFall, captured]

/-- A delivered edge is the edge's own event (R2). -/
theorem exec_edgeCommand (input : PressInput) (rise : Bool) (p : PressId) (t : Clock) (s : State) :
    exec (edgeCommand input rise p t) s = .next (s.deliverEdge p input rise t) := by
  cases input <;> cases rise <;> rfl

/-- What a sample that delivers no edge makes of its filter (R1). -/
theorem InputFilter.sample_quiet {f g : InputFilter} {filterTime : Nat} {now : Clock} {level : Bool}
    (h : (f.sampled = false ∧ g = { sampled := true, level := level, candidate := none }) ∨
      (f.sampled = true ∧ level = f.level ∧ g = { f with candidate := none }) ∨
      (f.sampled = true ∧ level ≠ f.level ∧ f.candidate = none ∧ g = { f with candidate := some now }) ∨
      (f.sampled = true ∧ level ≠ f.level ∧
        (∃ start, f.candidate = some start ∧ (now - start).toNat < filterTime) ∧ g = f)) :
    f.sample filterTime now level = (g, none) := by
  rcases h with ⟨first, rfl⟩ | ⟨later, same, rfl⟩ | ⟨later, other, fresh, rfl⟩ | ⟨later, other, ⟨start, waits, short⟩, rfl⟩
  · simp [InputFilter.sample, first]
  · simp [InputFilter.sample, later, same]
  · simp [InputFilter.sample, later, other, fresh]
  · have short : spanMs now start < filterTime := short
    simp [InputFilter.sample, later, other, waits, short]

/-- A different level that has stood for the filter time is accepted (R1). -/
theorem InputFilter.sample_accepts {f : InputFilter} {filterTime : Nat} {now start : Clock} {level : Bool}
    (later : f.sampled = true) (other : level ≠ f.level) (waits : f.candidate = some start)
    (long : filterTime ≤ (now - start).toNat) :
    f.sample filterTime now level = ({ f with level := level, candidate := none }, some start) := by
  have long : ¬spanMs now start < filterTime := Nat.not_lt.2 long
  simp [InputFilter.sample, later, other, waits, long]

/-- Settles O27: a sample that is not accepted changes the filter alone; an accepted one is its edge, whatever the filter
held. -/
theorem inputFilterAcceptsASteadyLevel : Obligations.InputFilterAcceptsASteadyLevel := by
  unfold Obligations.InputFilterAcceptsASteadyLevel
  rintro s p input level f law rfl
  refine ⟨fun g quiet => ?_, fun start later other waits long => ?_⟩
  · refine ⟨s.modPress p (Press.setFilter input g), congrArg Host.Outcome.next ?_, .modPress s p _, .modPress s p _, ?_⟩
    · simp only [State.sampleInput, InputFilter.sample_quiet quiet]
    · rw [State.modPress_press_self]
      cases input <;> exact (law.pinned p).drive_of_same
  · rw [exec_edgeCommand]
    refine congrArg Host.Outcome.next ?_
    simp only [State.sampleInput, InputFilter.sample_accepts later other waits long]
    exact State.deliverEdge_setFilter input level _

end Edges

end Sys2Proof.Machine

/-! SUPPORT. The requests and edges that move a press into or out of service, into the scale queue and to commit: the
statements on PRESS_ENABLE, PRESS_DISABLE, PRESS_ABORT and commit (1.3, 1.7, 1.8, 7.1, 7.2). -/

namespace Sys2Proof.Machine

section Places

variable {s t : State} {p : PressId} {x : Press} {queue : List PressId}

/-- The admission test of a press with the setup and the readiness of the press that stands there (R78). -/
theorem admissible_iff (setup : x.setup = (s.press p).setup) (ready : x.ready = (s.press p).ready) :
    x.admissible s.heat.state = true ↔ Admissible s p := by
  rw [← State.admits_iff, State.admits_eq, Press.admissible, Press.admissible, setup, ready]

/-- A press with its outputs and its forced level off enters HEATING, or goes straight on to CHARGE_WAIT (R6, R7, R78). -/
theorem entersHeating_of_heated (setup : x.setup = (s.press p).setup) (ready : x.ready = (s.press p).ready)
    (quiet : x.openPermit = false ∧ x.ejector = false ∧ x.forced = false) (press : t.press p = x.heated s.heat.state)
    (scale : t.scale = { s.scale with queue := if x.admissible s.heat.state then queue ++ [p] else queue }) :
    EntersHeating p x queue s t := by
  obtain ⟨openPermit, ejector, forced⟩ := quiet
  have test := admissible_iff (s := s) (p := p) setup ready
  refine ⟨fun admits => ⟨?_, ?_⟩, fun refuses => ⟨?_, ?_⟩⟩
  · rw [press, Press.heated, if_pos (test.2 admits)]
    simp [Press.drive, Press.enter, Press.ejectorLevel, openPermit, ejector, forced]
  · rw [scale, if_pos (test.2 admits)]
  · rw [press, Press.heated, if_neg (fun h => refuses (test.1 h))]
    simp [Press.drive, Press.enter, Press.ejectorLevel, openPermit, ejector, forced]
  · rw [scale, if_neg (fun h => refuses (test.1 h))]

/-- A context that is taken leaves its record at the tail of the history queue, its press entering HEATING (R21, R128). -/
theorem State.seat_offerCommit_of_room {c : CycleContext} (context : x.context = some c)
    (room : s.history.records.length < 64) : (s.seat p x queue).offerCommit p =
      ({ s with history := { s.history with records := s.history.records ++ [c.record] } } : State).seat p
        (({ x with context := none } : Press).drive.heated s.heat.state)
        (if x.admissible s.heat.state then queue ++ [p] else queue) := by
  unfold State.offerCommit
  rw [State.seat_press_self, context]
  dsimp only
  refine (if_pos room).trans ?_
  have recorded : (s.seat p x queue).takeRecord p c =
      ((({ s with history := { s.history with records := s.history.records ++ [c.record] } } : State).seat p x queue).modPress p
        fun x => { x with context := none }).enterHeating p := rfl
  rw [recorded, State.seat_modPress, State.seat_enterHeating]
  rfl

/-- With the history queue full the press holds its context at the tail of the commit wait list (R128). -/
theorem State.seat_offerCommit_of_full {c : CycleContext} (context : x.context = some c)
    (full : 64 ≤ s.history.records.length) : (s.seat p x queue).offerCommit p =
      ({ s with history := { s.history with waitList := s.history.waitList ++ [p] } } : State).seat p
        (x.enter .commitHeld).drive queue := by
  unfold State.offerCommit
  rw [State.seat_press_self, context]
  dsimp only
  refine (if_neg (Nat.not_lt.2 full)).trans ?_
  rw [State.seat_modPress]
  rfl

/-- The part with its history, one press and the scale queue replaced. -/
theorem OnlyChanges.seatHistory (s : State) (h : History) (y : Press) :
    OnlyChanges [.presses, .scale, .history] s (({ s with history := h } : State).seat p y queue) :=
  ⟨rfl, fun b hb => by cases b <;> simp_all [State.keeps, State.seat]⟩

/-- A context offered for commit, by a press with its outputs and its forced level off (R21, R125, R128). -/
theorem offersCommit {c : CycleContext} (setup : x.setup = (s.press p).setup) (ready : x.ready = (s.press p).ready)
    (quiet : x.openPermit = false ∧ x.ejector = false ∧ x.forced = false)
    (offers : t = (s.seat p { x with context := some c } s.scale.queue).offerCommit p) :
    OffersCommit p x c s t ∧ OnlyChanges [.presses, .scale, .history] s t ∧ OnlyPress p s t := by
  obtain ⟨openPermit, ejector, forced⟩ := quiet
  rcases Nat.lt_or_ge s.history.records.length 64 with room | full
  · rw [State.seat_offerCommit_of_room rfl room] at offers
    subst offers
    refine ⟨⟨fun _ => ⟨rfl, ?_⟩, fun full => absurd room (Nat.not_lt.2 full)⟩, .seatHistory s _ _, .seat _ p _ _⟩
    have driven : ({ x with context := none } : Press).drive.heated s.heat.state =
        ({ x with context := none } : Press).heated s.heat.state := rfl
    refine entersHeating_of_heated (x := { x with context := none }) setup ready ⟨openPermit, ejector, forced⟩ ?_ rfl
    rw [State.seat_press_self, driven]
  · rw [State.seat_offerCommit_of_full rfl full] at offers
    subst offers
    refine ⟨⟨fun room => absurd room (Nat.not_lt.2 full), fun _ => ⟨rfl, rfl, ?_⟩⟩, .seatHistory s _ _, .seat _ p _ _⟩
    rw [State.seat_press_self]
    simp [Press.drive, Press.enter, Press.ejectorLevel, PressState.allowsForce, openPermit, ejector, forced]

end Places

/-! ## The requests -/

section Requests

variable {s : State} {p : PressId}

section Offers

variable {c : CycleContext} {x : Press} {f : Press → Press} (driven : (f (s.press p)).drive = { x with context := some c })
  (setup : x.setup = (s.press p).setup) (ready : x.ready = (s.press p).ready)
  (quiet : x.openPermit = false ∧ x.ejector = false ∧ x.forced = false)
include driven setup ready quiet

/-- A press changed and its context offered, the conditions handed on. -/
theorem offersCommit_settle : OffersCommit p x c s ((s.modPress p f).offerCommit p).settle ∧
    OnlyChanges [.presses, .scale, .history, .attention] s ((s.modPress p f).offerCommit p).settle ∧
    OnlyPress p s ((s.modPress p f).offerCommit p).settle ∧ HandsOn s ((s.modPress p f).offerCommit p).settle := by
  obtain ⟨offers, only, others⟩ := offersCommit setup ready quiet rfl
  rw [State.modPress_eq_seat, driven]
  exact ⟨offers, (only.mono (by simp)).settle (by simp), others, State.settle_handsOn (only.2 .attention (by decide))⟩

/-- An event that changes a press and offers its context. -/
theorem exec_offerCommit {i : Instr} (event : i.isRequest = false) (acts : s.event i = ((s.modPress p f).offerCommit p).settle) :
    ∃ t, exec i s = .next t ∧ OnlyChanges [.presses, .scale, .history, .attention] s t ∧ OnlyPress p s t ∧ HandsOn s t ∧
      OffersCommit p x c s t := by
  obtain ⟨offers, only, others, hands⟩ := offersCommit_settle driven setup ready quiet
  exact ⟨_, by rw [exec_of_event event, acts], only, others, hands, offers⟩

/-- A request that changes a press and offers its context, answered with the state it leaves. -/
theorem serve_offerCommit {i : Instr} (request : i.isRequest = true) (free : s.link.hand = none)
    (acts : serve i s = (((s.modPress p f).offerCommit p).settle, stateReplyOf ((s.modPress p f).offerCommit p).settle p)) :
    ∃ t, exec i s = .next t ∧ OnlyChanges [.presses, .scale, .history, .attention, .link] s t ∧ OnlyPress p s t ∧
      HandsOn s t ∧ OffersCommit p x c s t ∧ Answers i [0, numberByte (t.press p).state.code] s t := by
  obtain ⟨offers, only, others, hands⟩ := offersCommit_settle driven setup ready quiet
  have link := only.2 .link (by decide)
  refine ⟨((s.modPress p f).offerCommit p).settle.putInHand (requestEntry i)
      (stateReplyOf ((s.modPress p f).offerCommit p).settle p),
    by rw [exec_of_isRequest request, State.request_of_free _ free, acts], ?_, others, hands.putInHand _ _, offers,
    State.putInHand_answers i _ link⟩
  exact (only.mono (by simp)).putInHand _ _ (by simp)

end Offers

/-- A PART_CLEAR rise offers the context of a press in UNLOAD_WAIT, with the captured time (R21). -/
theorem State.clearRise_offers {t : Clock} (st : (s.press p).state = .unloadWait) : s.clearRise p t =
    ((s.modPress p fun x => (x.capture .partClear true t).onContext
      (CycleContext.onPanel fun r => { r with commitTime := some t })).offerCommit p).settle := by
  unfold State.clearRise
  refine (if_pos ((State.captured_state _ _).trans st)).trans ?_
  rw [State.modPress_modPress]
  rfl

/-- Settles O18: both offers are of the panel's context, by a press whose outputs are off. -/
theorem commitIsTakenOrHeld : Obligations.CommitIsTakenOrHeld := by
  unfold Obligations.CommitIsTakenOrHeld
  refine ⟨fun f => ⟨?reject, fun u a e c => ⟨?suspect, ?good⟩⟩, ?offers⟩
  case reject =>
    intro h
    simp only [RecordFlags.grade, Bool.or_eq_true]
    exact if_pos (by tauto)
  case suspect =>
    intro h
    rw [RecordFlags.grade, if_neg (by simp [u, a, e, c]), if_pos (by simp only [Bool.or_eq_true]; tauto)]
  case good =>
    intro h1 h2 h3 h4 h5 h6 h7
    simp [RecordFlags.grade, u, a, e, c, h1, h2, h3, h4, h5, h6, h7]
  case offers =>
    rintro s p x c law rfl context
    have pins := law.pinned p
    refine ⟨fun free st => ?abort, fun captured st => ?clear⟩
    case abort =>
      refine serve_offerCommit (f := fun x => (x.addFlag fun f => { f with aborted := true }).onContext
          (CycleContext.onPanel fun r => { r with commitTime := some s.clock }))
        ?_ rfl rfl (pins.quiet (by rw [st]; rfl) (by simp [st]) (by simp [st])) (by rfl) free ?_
      · simp only [Press.addFlag, Press.onContext, context, Option.map_some]
        exact pins.drive_of_same
      · simp only [serve, servePressAbort, withPress_numberByte, State.abortPress, st]
    case clear =>
      refine exec_offerCommit (x := { s.press p with
          partClear := { sampled := true, level := true, candidate := none }
          captures := { (s.press p).captures with clearRise := captured } })
        ?_ rfl rfl (pins.quiet (by rw [st]; rfl) (by simp [st]) (by simp [st])) (by rfl) (State.clearRise_offers st)
      have offered : ((s.press p).capture .partClear true captured).context = some c := context
      simp only [Press.onContext, offered, Option.map_some]
      exact pins.drive_of_same

/-- A press with its panel marked ABORTED, in the state that R23 gives. -/
def Press.abortedInto (after : PressState) (x : Press) : Press :=
  { x.addFlag fun f => { f with aborted := true } with state := after, openPermit := decide (after = .demouldDue) }

/-- PRESS_ABORT marks a panel that is not in CHARGE_READY, and moves its press (R23). -/
theorem State.abortPress_marks {after : PressState} (pins : (s.press p).Pinned)
    (h : ((s.press p).state = .curing ∧ after = .demouldDue) ∨ ((s.press p).state = .demouldDue ∧ after = .demouldDue) ∨
      ((s.press p).state = .ejecting ∧ after = .ejecting) ∨ ((s.press p).state = .ejectFault ∧ after = .unloadWait) ∨
      ((s.press p).state = .unloadWait ∧ after = .unloadWait)) :
    s.abortPress p = some (s.modPress p (Press.abortedInto after)) ∧
      ((s.press p).abortedInto after).drive = (s.press p).abortedInto after := by
  obtain ⟨openPermit, ejector, forced⟩ := pins
  rcases h with ⟨st, rfl⟩ | ⟨st, rfl⟩ | ⟨st, rfl⟩ | ⟨st, rfl⟩ | ⟨st, rfl⟩
  all_goals
    simp only [Press.ejectorLevel, PressState.allowsForce, st, Bool.and_false] at openPermit ejector forced
    refine ⟨?_, ?_⟩
    · simp only [State.abortPress, st]
      refine congrArg some (State.modPress_congr_driven ?_)
      simp [Press.drive, Press.abortedInto, Press.addFlag, Press.onContext, Press.enter, Press.ejectorLevel,
        PressState.allowsForce, st, forced]
    · simp [Press.drive, Press.abortedInto, Press.addFlag, Press.onContext, Press.ejectorLevel, PressState.allowsForce,
        ejector] <;> rfl

/-- Settles O17: a panel is marked where its press stays or moves on, and a press in CHARGE_WAIT is withdrawn. -/
theorem abortActsByTheTable : Obligations.AbortActsByTheTable := by
  unfold Obligations.AbortActsByTheTable
  rintro s p x law free rfl
  have pins := law.pinned p
  refine ⟨fun c after context moves => ?marks, fun st => ?withdraws⟩
  case marks =>
    obtain ⟨aborts, becomes⟩ := State.abortPress_marks pins moves
    refine serve_modPress (f := Press.abortedInto after) (by rfl) free ?_ ?_
    · simp only [serve, servePressAbort, withPress_numberByte, aborts]
      have state : ((s.modPress p (Press.abortedInto after)).settle.press p).state = after := by
        rw [State.settle_press, State.modPress_press_self, becomes]
        rfl
      rw [stateReplyOf, state]
      rfl
    · rw [becomes]
      simp [Press.abortedInto, Press.addFlag, Press.onContext, context, CycleContext.onFlags, CycleContext.onPanel]
  case withdraws =>
    have quiet := pins.quiet (by rw [st]; rfl) (by simp [st]) (by simp [st])
    have withdrawn : s.withdraw p = s.seat p ((s.press p).heated s.heat.state)
        (if (s.press p).admissible s.heat.state then s.scale.queue.filter (· ≠ p) ++ [p]
          else s.scale.queue.filter (· ≠ p)) := by
      rw [State.withdraw, State.leaveQueue_eq_seat, State.seat_enterHeating]
    obtain ⟨t, taken, only, others, hands, answers, press, scale⟩ := serve_seat (c := .pressAbort (numberByte p)) (by rfl) free
      (show serve (.pressAbort (numberByte p)) s = ((s.seat p ((s.press p).heated s.heat.state) _).settle, _) by
        simp only [serve, servePressAbort, withPress_numberByte, State.abortPress, st]
        rw [withdrawn])
    refine ⟨t, taken, only, others, hands, entersHeating_of_heated rfl rfl quiet press scale, answers.congr ?_⟩
    rw [press, stateReplyOf, State.settle_press, State.seat_press_self]
    rfl

/-! ## Entering and leaving service -/

/-- Settles O16: the press is off the queue, and its zones are held off in OFFLINE. -/
theorem pressDisableEndsService : Obligations.PressDisableEndsService := by
  unfold Obligations.PressDisableEndsService
  rintro s p x law free rfl st
  have pins := law.pinned p
  have disabled : (s.leaveQueue p).modPress p Press.toOffline =
      s.seat p (s.press p).toOffline.drive (s.scale.queue.filter (· ≠ p)) := by
    rw [State.leaveQueue_eq_seat, State.seat_modPress]
  obtain ⟨t, taken, only, others, hands, answers, press, scale⟩ := serve_seat (c := .pressDisable (numberByte p)) (by rfl)
    free (show serve (.pressDisable (numberByte p)) s = ((s.seat p (s.press p).toOffline.drive _).settle, [0]) by
      simp only [serve, servePressDisable, withPress_numberByte, st, if_true, disabled]
      rfl)
  refine ⟨t, taken, only, others, hands, answers, scale, press.trans ?_⟩
  have openPermit : (s.press p).openPermit = false := by rw [pins.openPermit]; rcases st with st | st <;> simp [st]
  have ejector : (s.press p).ejector = (s.press p).forced := by
    rw [pins.ejector, pins.forced]
    rcases st with st | st <;> simp [Press.ejectorLevel, PressState.allowsForce, st]
  simp [Press.toOffline, Press.holdOffAll, Press.modZones, Zone.holdOff, Press.enter, Press.drive, Press.ejectorLevel,
    PressState.allowsForce, openPermit, ejector]

/-- Settles O15: the press that enters HEATING with its window started is admitted or not. -/
theorem pressEnableStartsService : Obligations.PressEnableStartsService := by
  unfold Obligations.PressEnableStartsService
  rintro s p x y u r law free rfl st setup slot rfl
  have pins := law.pinned p
  have recipe : s.recipeOf p = some r := by simp only [State.recipeOf, setup, slot]
  have openPermit : (s.press p).openPermit = false := by rw [pins.openPermit, st]; rfl
  have ejector : (s.press p).ejector = (s.press p).forced := by
    rw [pins.ejector, Press.ejectorLevel, st]; simp [PressState.allowsForce]
  have test := admissible_iff (s := s) (p := p) (x := ((s.press p).enter .heating).startWindow s.clock r.heaterWindow)
    rfl rfl
  have enabled : s.enablePress p = (s.seat p (((s.press p).enter .heating).startWindow s.clock r.heaterWindow).drive
      s.scale.queue).evaluateAdmission p := by
    simp only [State.enablePress, recipe]
    rfl
  have served : serve (.pressEnable (numberByte p)) s =
      ((s.enablePress p).settle, stateReplyOf (s.enablePress p).settle p) := by
    simp [serve, servePressEnable, withPress_numberByte, st, setup]
  by_cases admits : Admissible s p
  · rw [State.seat_evaluateAdmission_of_joins _ _ _ _ (by exact test.2 admits)] at enabled
    rw [enabled] at served
    obtain ⟨t, taken, only, others, hands, answers, press, scale⟩ := serve_seat (by rfl) free served
    refine ⟨t, taken, only, others, hands, fun refuses => absurd admits refuses, fun _ => ⟨?_, scale, answers.congr ?_⟩⟩
    · rw [press]
      simp [Press.startWindow, Press.modZones, Press.enter, Press.drive, Press.ejectorLevel, PressState.allowsForce,
        onTimeMs, openPermit]
    · rw [stateReplyOf, State.settle_press, State.seat_press_self]
      rfl
  · rw [State.seat_evaluateAdmission_of_not_joins _ _ _ _ (by
      exact Bool.eq_false_iff.2 fun h => admits (test.1 h))] at enabled
    rw [enabled] at served
    obtain ⟨t, taken, only, others, hands, answers, press, scale⟩ := serve_seat (by rfl) free served
    refine ⟨t, taken, only, others, hands, fun _ => ⟨?_, scale, answers.congr ?_⟩, fun h => absurd h admits⟩
    · rw [press]
      simp [Press.startWindow, Press.modZones, Press.enter, Press.drive, Press.ejectorLevel, PressState.allowsForce,
        onTimeMs, openPermit, ejector]
    · rw [stateReplyOf, State.settle_press, State.seat_press_self]
      rfl

end Requests

end Sys2Proof.Machine

/-! SUPPORT. The tables of the replies' bytes as sequences of items: an item stands where the items before it end, and the
items of a table are those the part writes (10.1, 10.4..10.7, R183, R188). -/

namespace Sys2Proof.Machine

/-! ## Sequences of items -/

/-- The rows of items that stand one after another from an offset on. -/
def Layout.items : Nat → List (List Byte) → Layout
  | _, [] => []
  | k, item :: rest => (k, item) :: Layout.items (k + item.length) rest

/-- Items that stand one after another in a payload stand where the items before them end. -/
theorem Layout.items_holds {payload before : List Byte} {items : List (List Byte)}
    (h : before ++ items.flatten <+: payload) : (Layout.items before.length items).holds payload := by
  induction items generalizing before with
  | nil => exact Layout.holds_nil payload
  | cons item items ih =>
    rw [Layout.items, Layout.holds_cons, ← List.length_append]
    rw [List.flatten_cons, ← List.append_assoc] at h
    refine ⟨?_, ih h⟩
    obtain ⟨rest, rfl⟩ := h
    simp

/-- A table of items in the order of their offsets, from an offset of the payload on. -/
theorem Layout.holds_of_items {table : Layout} {payload : List Byte} (before : List Byte) (items : List (List Byte)) {k : Nat}
    (length : before.length = k) (h : before ++ items.flatten <+: payload) (rows : table = Layout.items k items) :
    table.holds payload := by
  subst length
  rw [rows]
  exact Layout.items_holds h

/-- A table that is placed behind some bytes. -/
theorem Layout.shifted_holds {table : Layout} {payload inner : List Byte} (before : List Byte) {k : Nat}
    (length : before.length = k) (h : before ++ inner <+: payload) (holds : ∀ rest, table.holds (inner ++ rest)) :
    (table.shifted k).holds payload := by
  obtain ⟨rest, rfl⟩ := h
  rw [Layout.holds_shifted, List.append_assoc, ← length, List.drop_left]
  exact holds rest

/-- The rows of an item with a presence byte whose value has a table of its own (R188). -/
def Layout.optional {α : Type} (k width : Nat) (table : α → Layout) : Option α → Layout
  | some a => (k, [1]) :: (table a).shifted (k + 1)
  | none => [(k, List.replicate (width + 1) 0)]

theorem Layout.optional_holds {α : Type} {width : Nat} {write : α → List Byte} {table : α → Layout} {payload : List Byte}
    (before : List Byte) {k : Nat} (length : before.length = k) (o : Option α)
    (h : before ++ optionalItem width write o <+: payload) (holds : ∀ a rest, (table a).holds (write a ++ rest)) :
    (Layout.optional k width table o).holds payload := by
  cases o with
  | none => exact Layout.holds_of_items before [List.replicate (width + 1) 0] length (by simpa [optionalItem, List.replicate_succ] using h) rfl
  | some a =>
    have present : before ++ [1] ++ write a <+: payload := by simpa [optionalItem] using h
    refine (Layout.holds_append [(k, [1])] _ _).2 ⟨?_, ?_⟩
    · exact Layout.holds_of_items before [[1]] length (by simpa using (List.prefix_append _ _).trans present) rfl
    · exact Layout.shifted_holds (before ++ [1]) (by rw [List.length_append, length]; rfl) present (holds a)

/-! ## The forms of items -/

section Forms

theorem u8_length (n : Nat) : (u8 n).length = 1 := rfl
theorem u16_length (n : Nat) : (u16 n).length = 2 := rfl
theorem u32_length (n : Nat) : (u32 n).length = 4 := rfl
theorem s32_length (i : Int) : (s32 i).length = 4 := rfl
theorem bit_length (b : Bool) : (bit b).length = 1 := rfl

variable {α : Type} {width : Nat} {write : α → List Byte} (o : Option α)

theorem given_map : given width (o.map write) = optionalItem width write o := by cases o <;> rfl

theorem orZeros_map : orZeros width (o.map write) = valueOrZeros width write o := by cases o <;> rfl

theorem orZeros_map_length (h : ∀ a, (write a).length = width) : (orZeros width (o.map write)).length = width := by
  rw [orZeros_map, valueOrZeros_length o h]

theorem orZeros_u32 (n : Option Nat) : orZeros 4 (n.map u32) = u32 (n.getD 0) := by cases n <;> rfl

theorem orZeros_u16 (n : Option Nat) : orZeros 2 (n.map u16) = u16 (n.getD 0) := by cases n <;> rfl

theorem codeIn_pressStates (st : PressState) : codeIn pressStates st = num8 st.code := by cases st <;> rfl
theorem codeIn_scaleStates (st : ScaleState) : codeIn scaleStates st = num8 st.code := by cases st <;> rfl
theorem codeIn_heatStates (st : HeatState) : codeIn heatStates st = num8 st.code := by cases st <;> rfl
theorem codeIn_gatings (g : Gating) : codeIn gatings g = num8 g.code := by cases g <;> rfl
theorem codeIn_zoneModes (m : ZoneMode) : codeIn zoneModes m = num8 m.code := by cases m <;> rfl
theorem codeIn_sensorStates (q : SensorState) : codeIn sensorStates q = num8 q.code := by cases q <;> rfl
theorem codeIn_decisions (d : Decision) : codeIn decisions d = num8 d.code := by cases d <;> rfl
theorem codeIn_roundingModes (m : RoundingMode) : codeIn roundingModes m = num8 m.code := by cases m <;> rfl
theorem idxOf_verdicts (v : Verdict) : verdicts.idxOf v + 1 = v.code := by cases v <;> rfl
theorem idxOf_recordClasses (g : RecordClass) : recordClasses.idxOf g = g.code := by cases g <;> rfl

/-- A set, told by its members, is the number that R183 gives. -/
theorem setOf_eq (members : List Bool) : setOf members = setNumber members := by
  have from_ (n : Nat) : ((members.zipIdx n).map fun m => if m.1 = true then 2 ^ m.2 else 0).sum = 2 ^ n * setNumber members := by
    induction members generalizing n with
    | nil => simp [setNumber]
    | cons b rest ih =>
      rw [List.zipIdx_cons, List.map_cons, List.sum_cons, ih, setNumber]
      cases b <;> simp [pow_succ] <;> ring
  have all := from_ 0
  rw [pow_zero, Nat.one_mul] at all
  exact all

end Forms

/-! ## The part record (10.6, R186) -/

/-- The record's words in their order. -/
theorem recordTable_holds (r : PanelRecord) (grade : Option RecordClass) (rest : List Byte) :
    (recordTable r grade).holds (r.words grade ++ rest) := by
  refine Layout.holds_of_items []
    [u32 r.serial, u32 r.press.val, u32 r.recipe.val, s32 r.mass, le32 r.weighTime,
      u32 (setOf [r.closeTime.isSome, r.openTime.isSome, r.accumulatorAtOpen.isSome, r.stepCountAtOpen.isSome,
        r.devMin.isSome, r.devMax.isSome, r.contactDelay.isSome, r.commitTime.isSome, grade.isSome]),
      orZeros 4 (r.closeTime.map le32), orZeros 4 (r.openTime.map le32), orZeros 4 (r.accumulatorAtOpen.map u32),
      orZeros 4 (r.stepCountAtOpen.map u32), orZeros 4 (r.devMin.map s32), orZeros 4 (r.devMax.map s32),
      u32 r.segmentReached, orZeros 4 (r.contactDelay.map u32), u32 r.retries, orZeros 4 (r.commitTime.map le32),
      u32 (setOf [r.flags.undercure, r.flags.aborted, r.flags.earlyOpen, r.flags.cureStalled, r.flags.tempExcursion,
        r.flags.permitLapse, r.flags.heatOff, r.flags.rateClamped, r.flags.tareStale, r.flags.ejectRetried,
        r.flags.sensorFault]),
      u32 (match grade with | some g => recordClasses.idxOf g | none => 0)] rfl ?_ ?_
  · have last : u32 (match grade with | some g => recordClasses.idxOf g | none => 0) =
        valueOrZeros 4 (fun g : RecordClass => num32 g.code) grade := by
      cases grade with
      | none => rfl
      | some g => simp only [idxOf_recordClasses]; rfl
    refine ⟨rest, ?_⟩
    rw [last]
    simp only [PanelRecord.words, setOf_eq, orZeros_map, List.flatten_cons, List.flatten_nil, List.append_assoc,
      List.append_nil, List.nil_append]
    rfl
  · simp only [Layout.items, orZeros_map_length _ u32_length, orZeros_map_length _ s32_length,
      orZeros_map_length _ le32_length, u32_length, s32_length, le32_length]
    rfl

/-! ## The recipe record (10.5) -/

/-- A stored recipe's record, block by block in the order of 10.5. -/
theorem Recipe.wire_bytes (r : Recipe) : r.wire.bytes =
    (([s16 r.baseTemp, s16 r.spLimit, s16 r.standbyTemp] : List (List Byte)).flatten ++
      ((List.finRange 8).map fun z => s16 r.zoneTrim[z]).flatten ++
      ((List.finRange 8).map fun k => u16 r.durations[k] ++ signMagnitude r.offsets[k]).flatten ++
      ([u8 r.kp, u8 r.ki, u16 r.maxDuty, u16 r.heaterWindow, u16 r.readyBand, u16 r.dropBand, u16 r.readyQualify,
        u16 r.dropQualify, s16 r.tRef, u16 r.doubling, u16 r.cureTarget, u16 r.minClose, u16 r.maxClose, s32 r.chargeMin,
        s32 r.chargeMax, u16 r.ejectDelay, u16 r.ejectWidth, u8 r.rounding] : List (List Byte)).flatten) := by
  have trims : r.wire.zoneTrim.toList.flatMap le16 = ((List.finRange 8).map fun z => s16 r.zoneTrim[z]).flatten := by
    simp [toList_eight, finRange_eight, Recipe.wire, s16]
  have segments : (List.finRange 8).flatMap (fun k => le16 r.wire.durations[k] ++ le16 r.wire.offsets[k]) =
      ((List.finRange 8).map fun k => u16 r.durations[k] ++ signMagnitude r.offsets[k]).flatten := by
    rw [List.flatMap_def]
    refine congrArg List.flatten (List.map_congr_left fun k _ => ?_)
    have offset : le16 (offsetWord r.offsets[k]) = signMagnitude r.offsets[k] := by
      unfold offsetWord signMagnitude u16
      split <;> rfl
    rw [← offset]
    simp [Recipe.wire, u16]
  unfold RecipeWire.bytes
  rw [trims, segments]
  simp only [List.flatten_cons, List.flatten_nil, List.append_assoc, List.append_nil]
  rfl

/-- The recipe record, row by row. -/
theorem recipeTable_holds (r : Recipe) (rest : List Byte) : (recipeTable r).holds (r.wire.bytes ++ rest) := by
  have rows : recipeTable r = (Layout.items 0 [s16 r.baseTemp, s16 r.spLimit, s16 r.standbyTemp] ++
      Layout.items 54 [u8 r.kp, u8 r.ki, u16 r.maxDuty, u16 r.heaterWindow, u16 r.readyBand, u16 r.dropBand,
        u16 r.readyQualify, u16 r.dropQualify, s16 r.tRef, u16 r.doubling, u16 r.cureTarget, u16 r.minClose,
        u16 r.maxClose, s32 r.chargeMin, s32 r.chargeMax, u16 r.ejectDelay, u16 r.ejectWidth, u8 r.rounding]) ++
      Layout.items 6 ((List.finRange 8).map fun z => s16 r.zoneTrim[z]) ++
      Layout.items 22 ((List.finRange 8).map fun k => u16 r.durations[k] ++ signMagnitude r.offsets[k]) := rfl
  rw [rows, Layout.holds_append, Layout.holds_append, Layout.holds_append, r.wire_bytes]
  generalize trims : ((List.finRange 8).map fun z => s16 r.zoneTrim[z]) = zones
  generalize segments : ((List.finRange 8).map fun k => u16 r.durations[k] ++ signMagnitude r.offsets[k]) = profile
  have six : zones.flatten.length = 16 := by rw [← trims]; rfl
  have lines : profile.flatten.length = 32 := by rw [← segments]; rfl
  refine ⟨⟨⟨?_, ?_⟩, ?_⟩, ?_⟩
  · exact Layout.holds_of_items [] _ rfl (by simp) rfl
  · exact Layout.holds_of_items ([s16 r.baseTemp, s16 r.spLimit, s16 r.standbyTemp].flatten ++ zones.flatten ++
      profile.flatten) _ (by rw [List.length_append, List.length_append, six, lines]; rfl) (by simp) rfl
  · exact Layout.holds_of_items [s16 r.baseTemp, s16 r.spLimit, s16 r.standbyTemp].flatten zones rfl (by simp) rfl
  · exact Layout.holds_of_items ([s16 r.baseTemp, s16 r.spLimit, s16 r.standbyTemp].flatten ++ zones.flatten)
      profile (by rw [List.length_append, six]; rfl) (by simp) rfl

theorem pressSet_eq (s : State) (test : Press → Bool) :
    pressSet s test = u8 (setOf ((List.finRange 4).map fun p => test (s.press p))) := by
  rw [setOf_eq]
  rfl

/-- A request answered without a change of the part. -/
theorem exec_onlyAnswers {s : State} {c : Instr} {r : Reply} (request : c.isRequest = true) (free : s.link.hand = none)
    (serves : serve c s = (s, r)) : ∃ t, exec c s = .next t ∧ OnlyAnswers c r s t :=
  ⟨_, exec_of_isRequest request s, State.request_onlyAnswers free serves⟩

/-- A word as its sign bit and its magnitude (R183). -/
theorem offsetValue_eq (w : BitVec 16) : offsetValue w =
    if 32768 ≤ w.toNat then -((w.toNat % 32768 : Nat) : Int) else ((w.toNat % 32768 : Nat) : Int) := by
  have sign : w[15] = decide (32768 ≤ w.toNat) := by
    rw [← BitVec.getLsbD_eq_getElem (by omega), ← BitVec.msb_eq_getLsbD_last, BitVec.msb_eq_decide]
  simp [offsetValue, sign]

/-- The signed value of a word comes back as the word, but for a negative zero (R183). -/
theorem offsetWord_offsetValue {w : BitVec 16} (h : w ≠ 0x8000) : offsetWord (offsetValue w) = w := by
  have bound := w.isLt
  have notNegativeZero : w.toNat ≠ 32768 := fun same => h (BitVec.eq_of_toNat_eq same)
  rw [offsetValue_eq, offsetWord]
  split
  · rw [if_pos (by omega)]
    exact BitVec.eq_of_toNat_eq (by rw [BitVec.toNat_ofNat]; omega)
  · rw [if_neg (by omega)]
    exact BitVec.eq_of_toNat_eq (by rw [BitVec.toNat_ofNat]; omega)

theorem clampInt_of_mem {low high v : Int} (h : low ≤ v) (h' : v ≤ high) : clampInt low high v = v := by
  rw [clampInt]
  omega

/-- A record whose soft fields need no clamping comes back as it was written (R30, R34). -/
theorem storedRecipe_wire {w : RecipeWire} (low : 0 ≤ w.standbyTemp.toInt) (high : w.standbyTemp.toInt ≤ w.baseTemp.toInt)
    (trims : ∀ z : ZoneId, -200 ≤ w.zoneTrim[z].toInt ∧ w.zoneTrim[z].toInt ≤ 200)
    (offsets : ∀ k : Fin 8, -500 ≤ offsetValue w.offsets[k] ∧ offsetValue w.offsets[k] ≤ 500 ∧ w.offsets[k] ≠ 0x8000)
    (duty : 0 ≤ w.maxDuty.toInt) (duty' : w.maxDuty.toInt ≤ 1000) : (storedRecipe w).wire = w := by
  have trim : (w.zoneTrim.map fun v => clampInt (-200) 200 v.toInt).map (BitVec.ofInt 16) = w.zoneTrim :=
    Vector.ext fun z hz => by
      obtain ⟨least, greatest⟩ := trims ⟨z, hz⟩
      simpa using congrArg (BitVec.ofInt 16) (clampInt_of_mem least greatest)
  have offset : (w.offsets.map fun v => clampInt (-500) 500 (offsetValue v)).map offsetWord = w.offsets :=
    Vector.ext fun k hk => by
      obtain ⟨least, greatest, notZero⟩ := offsets ⟨k, hk⟩
      simpa using (congrArg offsetWord (clampInt_of_mem least greatest)).trans (offsetWord_offsetValue notZero)
  have duration : (w.durations.map BitVec.toNat).map (BitVec.ofNat 16) = w.durations :=
    Vector.ext fun k hk => by simp
  have standby : BitVec.ofInt 16 (clampInt 0 w.baseTemp.toInt w.standbyTemp.toInt) = w.standbyTemp := by
    rw [clampInt_of_mem low high, BitVec.ofInt_toInt]
  have most : BitVec.ofNat 16 (clampInt 0 1000 w.maxDuty.toInt).toNat = w.maxDuty := by
    rw [clampInt_of_mem duty duty']
    refine BitVec.eq_of_toNat_eq ?_
    rw [BitVec.toInt_eq_toNat_cond] at duty duty' ⊢
    rw [BitVec.toNat_ofNat]
    have := w.maxDuty.isLt
    split at duty <;> omega
  cases w
  simp only [storedRecipe, Recipe.wire] at trim offset duration standby most ⊢
  simp only [trim, offset, duration, standby, most, BitVec.ofInt_toInt, BitVec.ofNat_toNat, BitVec.setWidth_eq]

/-- Settles O30: the record is read in its layout, and one that clamping does not move comes back. -/
theorem recipeReadReturnsTheRecord : Obligations.RecipeReadReturnsTheRecord := by
  unfold Obligations.RecipeReadReturnsTheRecord
  refine ⟨fun s n r free valid => ?read, fun w low high trims offsets duty duty' => ?back⟩
  case read =>
    have served : serve (.recipeRead (numberByte n)) s = (s, [0] ++ u8 n.val ++ r.wire.bytes ++
        pressSet s (fun x => x.names n) ++ pressSet s (fun x => x.names n && decide (x.state ≠ .offline))) := by
      simp only [serve, serveRecipeRead, slotOf_numberByte, valid]
      rfl
    obtain ⟨t, taken, answers⟩ := exec_onlyAnswers (by rfl) free served
    refine ⟨t, _, taken, answers, ?_, ?_⟩
    · rw [pressSet_eq, pressSet_eq]
      simp [RecipeWire.bytes_length, u8_length]
    · rw [pressSet_eq, pressSet_eq, recipeReadTable, Layout.holds_append]
      have named (p : PressId) : (s.press p).names n =
          (match (s.press p).setup with | some u => decide (u.slot = n) | none => false) := by
        unfold Press.names
        rcases (s.press p).setup with _ | u <;> rfl
      refine ⟨(Layout.holds_append [(0, [0]), (1, u8 n.val)] _ _).2 ⟨?_, ?_⟩, ?_⟩
      · exact Layout.holds_of_items [] [[0], u8 n.val] rfl (by simp) rfl
      · refine Layout.holds_of_items (k := 93) ([0] ++ u8 n.val ++ r.wire.bytes)
          [u8 (setOf ((List.finRange 4).map fun p => (s.press p).names n)),
            u8 (setOf ((List.finRange 4).map fun p => (s.press p).names n && decide ((s.press p).state ≠ .offline)))]
          (by simp [RecipeWire.bytes_length, u8_length]) (by simp) ?_
        simp only [named]
        rfl
      · exact Layout.shifted_holds ([0] ++ u8 n.val) rfl (by simp) (recipeTable_holds r)
  case back => exact storedRecipe_wire low high trims offsets duty duty'

/-! ## PRESS_STATUS (10.7) -/

section PressStatus

variable (s : State) (p : PressId)

theorem setupBytes_length (u : Option Setup) : (setupBytes u).length = 4 := by cases u <;> rfl

theorem strokeBytes_length (k : Option Stroke) : (strokeBytes k).length = 5 := by
  rcases k with _ | k
  · rfl
  · cases k <;> rfl

theorem CycleContext.bytes_length (c : CycleContext) : c.bytes.length = 72 := PanelRecord.words_length _ _

/-- The values a press reports are those of the statements (R26, R101). -/
theorem cureValues_eq (x : Press) : x.cureValues = reportedCure x := by
  have closed : x.state.isClosed = true ↔ x.state = .curing ∨ x.state = .demouldDue := by
    cases x.state <;> simp [PressState.isClosed]
  unfold Press.cureValues reportedCure
  rcases x.context with _ | c
  · rfl
  · simp only [closed]

theorem targetOf_eq : s.targetOf p = reportedTarget s p := by
  unfold State.targetOf reportedTarget State.recipeOf
  rcases (s.press p).setup with _ | u
  · rfl
  · dsimp only
    rcases s.recipes[u.slot] with _ | r <;> rfl

/-- The verdict held for a press (R26). -/
def verdictItem (v : Option VerdictRecord) : List Byte :=
  orZeros 9 (v.map fun v => u8 (verdicts.idxOf v.verdict + 1) ++ s32 v.mass ++ orZeros 4 (v.serial.map u32))

theorem heldVerdictFor_eq : heldVerdictFor s p = reportedVerdict s p := by
  unfold heldVerdictFor reportedVerdict
  rcases s.scale.held with _ | v
  · cases s.scale.state <;> rfl
  · cases s.scale.state <;> simp [Option.filter]

/-- The items of PRESS_STATUS before the context (10.7). -/
def statusHead : List (List Byte) :=
  let x := s.press p
  [[0], num8 x.state.code, setupBytes x.setup, bit x.ready,
   u8 (setNumber [x.openPermit, x.ejector, x.closed.level, x.contact.level, x.partClear.level, x.forced]),
   u8 x.segment, u32 ((reportedCure x).1.getD 0), u16 ((reportedCure x).2.getD 0), u32 (reportedTarget s p),
   optionalItem 4 num32 (timeSinceClose s.clock x), strokeBytes x.stroke, le32 x.captures.closedRise,
   le32 x.captures.closedFall, le32 x.captures.contactRise, le32 x.captures.contactFall, le32 x.captures.clearRise,
   le32 x.captures.clearFall]

theorem verdictItem_some (v : VerdictRecord) :
    verdictItem (some v) = num8 v.verdict.code ++ int32 v.mass ++ num32 (v.serial.getD 0) := by
  rw [verdictItem, Option.map_some, orZeros, idxOf_verdicts, orZeros_u32]
  rfl

theorem pressStatusContents_eq : okReply (pressStatusContents s p) =
    (statusHead s p).flatten ++ optionalItem 72 CycleContext.bytes (s.press p).context ++
      [verdictItem (reportedVerdict s p), u8 (setNumber (s.press p).changes.toList), [0]].flatten := by
  have held : (match heldVerdictFor s p with
      | some v => num8 v.verdict.code ++ int32 v.mass ++ num32 (v.serial.getD 0)
      | none => List.replicate 9 0) = verdictItem (reportedVerdict s p) := by
    rw [← heldVerdictFor_eq]
    rcases heldVerdictFor s p with _ | v
    · rfl
    · exact (verdictItem_some v).symm
  unfold pressStatusContents okReply
  dsimp only
  rw [cureValues_eq, targetOf_eq, ← held]
  simp only [statusHead, List.flatten_cons, List.flatten_nil, List.append_assoc, List.append_nil]
  rfl

theorem statusHead_length : (statusHead s p).flatten.length = 53 := by
  simp [statusHead, setupBytes_length, strokeBytes_length, optionalItem_length (width := 4) _ num32_length, u8_length,
    u16_length, u32_length, bit_length]

theorem verdictItem_length (v : Option VerdictRecord) : (verdictItem v).length = 9 := by
  refine orZeros_map_length v fun v => ?_
  simp [u8_length, s32_length, orZeros_map_length _ u32_length]

theorem contextItem_length (c : Option CycleContext) : (optionalItem 72 CycleContext.bytes c).length = 73 :=
  optionalItem_length c CycleContext.bytes_length

theorem setupItem_eq (x : Press) : (match x.setup with
      | some u => [1, BitVec.ofNat 8 u.slot.val, u.zones] ++ codeIn gatings u.gating
      | none => [0, 0, 0, 0]) = setupBytes x.setup := by
  rcases x.setup with _ | u
  · rfl
  · simp only [codeIn_gatings]
    rfl

theorem strokeItem_eq (x : Press) : (match x.stroke with
      | none => [0, 0, 0, 0, 0]
      | some (.delay _) => [1, 0, 0, 0, 0]
      | some (.pulse _ start _) => 2 :: le32 start) = strokeBytes x.stroke := by
  rcases x.stroke with _ | k
  · rfl
  · cases k <;> rfl

theorem timeItem_eq (now : Clock) (x : Press) : given 4 (match x.context with
      | some c => c.panel.closeTime.map fun close =>
          le32 (match c.panel.openTime with | some opened => opened - close | none => now - close)
      | none => none) = optionalItem 4 num32 (timeSinceClose now x) := by
  have word (v : BitVec 32) : le32 v = num32 v.toNat := by rw [num32, BitVec.ofNat_toNat, BitVec.setWidth_eq]
  unfold timeSinceClose
  rcases x.context with _ | c
  · rfl
  · dsimp only [Option.bind_some]
    rcases c.panel.closeTime with _ | close
    · rfl
    · rcases c.panel.openTime with _ | opened
      · exact congrArg (1 :: ·) (word _)
      · exact congrArg (1 :: ·) (word _)

/-- PRESS_STATUS's bytes in the table of 10.7. -/
theorem pressStatusTable_holds : (pressStatusTable s p).holds (okReply (pressStatusContents s p)) := by
  rw [pressStatusContents_eq]
  have head := statusHead_length s p
  have item := contextItem_length (s.press p).context
  have rows : pressStatusTable s p = Layout.items 0 (statusHead s p) ++
      Layout.items 126 [verdictItem (reportedVerdict s p), u8 (setNumber (s.press p).changes.toList), [0]] ++
      Layout.optional 53 72 (fun c : CycleContext => recordTable c.panel none) (s.press p).context := by
    simp only [statusHead, Layout.items, List.length_cons, List.length_nil, setupBytes_length, strokeBytes_length,
      optionalItem_length (width := 4) _ num32_length, verdictItem_length, u8_length, u16_length, u32_length, bit_length,
      le32_length, num8_length]
    rw [← setupItem_eq (s.press p), ← strokeItem_eq (s.press p), ← timeItem_eq s.clock (s.press p),
      ← codeIn_pressStates, ← orZeros_u32, ← orZeros_u16, ← setOf_eq, ← setOf_eq]
    have context : Layout.optional 53 72 (fun c : CycleContext => recordTable c.panel none) (s.press p).context =
        (match (s.press p).context with
          | some c => (53, [1]) :: (recordTable c.panel none).shifted 54
          | none => [(53, List.replicate 73 0)]) := by
      rcases (s.press p).context with _ | c <;> rfl
    rw [context]
    rfl
  rw [rows, Layout.holds_append, Layout.holds_append]
  refine ⟨⟨?_, ?_⟩, ?_⟩
  · exact Layout.holds_of_items [] _ rfl (by simp [List.append_assoc]) rfl
  · exact Layout.holds_of_items ((statusHead s p).flatten ++ optionalItem 72 CycleContext.bytes (s.press p).context) _
      (by rw [List.length_append, head, item]) (by simp [List.append_assoc]) rfl
  · exact Layout.optional_holds (statusHead s p).flatten head _ (List.prefix_append _ _)
      fun c => recordTable_holds c.panel none

theorem pressStatusContents_length : (okReply (pressStatusContents s p)).length = 137 := by
  rw [pressStatusContents_eq, List.length_append, List.length_append, statusHead_length, contextItem_length]
  simp [verdictItem_length, u8_length]

end PressStatus

/-- Settles O20: the reply is the table, and clearing the change flags moves no output pin. -/
theorem pressStatusClearsTheChangeFlags : Obligations.PressStatusClearsTheChangeFlags := by
  unfold Obligations.PressStatusClearsTheChangeFlags
  rintro s p x law free rfl
  have served : serve (.pressStatus (numberByte p)) s =
      (s.modPress p (fun x => { x with changes := {} }), okReply (pressStatusContents s p)) := by
    simp only [serve, servePressStatus, withPress_numberByte]
  have press : (s.modPress p fun x => { x with changes := {} }).press p = { s.press p with changes := {} } := by
    rw [State.modPress_press_self, (law.pinned p).drive_of_same]
  refine ⟨(s.modPress p fun x => { x with changes := {} }).putInHand (requestEntry (.pressStatus (numberByte p)))
      (okReply (pressStatusContents s p)), _, ?_, ?_, OnlyPress.modPress s p (fun x => { x with changes := {} }), State.putInHand_answers _ _ rfl,
    pressStatusContents_length s p, pressStatusTable_holds s p, press⟩
  · rw [exec_of_isRequest (by rfl), State.request_of_free _ free, served]
  · exact ((OnlyChanges.modPress s p _).mono (by simp)).putInHand _ _ (by simp)

end Sys2Proof.Machine

/-! SUPPORT. The requests that only answer: the refusals of the press requests (1.3, R175) and the status requests' tables
of bytes (R59, R81, R100, R101, R121, R136, R137, R163). -/

namespace Sys2Proof.Machine

/-! ## The refusals of the press requests -/

section Refusals

variable {s : State} (p : PressId)

theorem serve_of_no_press {b : Byte} {c : Instr} (number : 4 ≤ b.toNat)
    (request : c = .pressEnable b ∨ c = .pressDisable b ∨ c = .pressAbort b ∨ c = .ejectRetry b ∨ (∃ l, c = .ejectForce b l) ∨
      c = .pressStatus b ∨ (∃ n z g, c = .pressSetup b n z g) ∨ (∃ z m d, c = .zoneMode b z m d) ∨ c = .zoneStatus b ∨
      c = .cureStatus b) : c.isRequest = true ∧ serve c s = (s, rangeReply 1) := by
  rcases request with rfl | rfl | rfl | rfl | ⟨l, rfl⟩ | rfl | ⟨n, z, g, rfl⟩ | ⟨z, m, d, rfl⟩ | rfl | rfl <;>
    exact ⟨rfl, withPress_range b s _ number⟩

theorem serve_pressEnable_refused (st : (s.press p).state ≠ .offline) :
    serve (.pressEnable (numberByte p)) s = (s, stateReply) := by
  simp only [serve, servePressEnable, withPress_numberByte, st, ne_eq, not_false_eq_true, if_true]

theorem serve_pressEnable_notFound (st : (s.press p).state = .offline) (setup : (s.press p).setup = none) :
    serve (.pressEnable (numberByte p)) s = (s, notFoundReply) := by
  simp only [serve, servePressEnable, withPress_numberByte, st, setup, ne_eq, not_true_eq_false, if_false, if_true]

theorem serve_pressDisable_refused (heating : (s.press p).state ≠ .heating) (waits : (s.press p).state ≠ .chargeWait) :
    serve (.pressDisable (numberByte p)) s = (s, stateReply) := by
  simp only [serve, servePressDisable, withPress_numberByte, heating, waits, or_self, if_false]

theorem serve_pressAbort_refused
    (st : (s.press p).state = .offline ∨ (s.press p).state = .heating ∨ (s.press p).state = .commitHeld) :
    serve (.pressAbort (numberByte p)) s = (s, stateReply) := by
  rcases st with st | st | st <;> simp only [serve, servePressAbort, withPress_numberByte, State.abortPress, st]

theorem serve_ejectRetry_refused (st : (s.press p).state ≠ .ejectFault) :
    serve (.ejectRetry (numberByte p)) s = (s, stateReply) := by
  simp only [serve, serveEjectRetry, withPress_numberByte, st, ne_eq, not_false_eq_true, if_true]

theorem serve_ejectForce_refused {l : Byte} (level : l.toNat ≤ 1) (offline : (s.press p).state ≠ .offline)
    (heating : (s.press p).state ≠ .heating) : serve (.ejectForce (numberByte p) l) s = (s, stateReply) := by
  have forbids : (s.press p).state.allowsForce = false := by
    cases st : (s.press p).state <;> simp_all [PressState.allowsForce]
  simp [serve, serveEjectForce, withPress_numberByte, bitOf_of_le level, forbids]

theorem serve_ejectForce_range {l : Byte} (level : 1 < l.toNat) :
    serve (.ejectForce (numberByte p) l) s = (s, rangeReply 2) := by
  simp only [serve, serveEjectForce, withPress_numberByte, bitOf_of_gt level]

end Refusals

/-- Settles O21: the press number is tested first, then the ejector level, then the state and the setup. -/
theorem pressRequestsAreRefused : Obligations.PressRequestsAreRefused := by
  unfold Obligations.PressRequestsAreRefused
  refine fun s free => ⟨fun b c number request => ?_, fun p c refused => ?_, fun p l level => ?_, fun p st setup => ?_⟩
  · obtain ⟨isRequest, served⟩ := serve_of_no_press number request
    exact exec_onlyAnswers isRequest free served
  · rcases refused with ⟨rfl, st⟩ | ⟨rfl, heating, waits⟩ | ⟨rfl, st⟩ | ⟨rfl, st⟩ | ⟨l, rfl, level, offline, heating⟩
    · exact exec_onlyAnswers (by rfl) free (serve_pressEnable_refused p st)
    · exact exec_onlyAnswers (by rfl) free (serve_pressDisable_refused p heating waits)
    · exact exec_onlyAnswers (by rfl) free (serve_pressAbort_refused p st)
    · exact exec_onlyAnswers (by rfl) free (serve_ejectRetry_refused p st)
    · exact exec_onlyAnswers (by rfl) free (serve_ejectForce_refused p level offline heating)
  · exact exec_onlyAnswers (by rfl) free (serve_ejectForce_range p level)
  · exact exec_onlyAnswers (by rfl) free (serve_pressEnable_notFound p st setup)

/-! ## Blocks of one width -/

/-- Items of one width: behind the first `i` items stand the others. -/
theorem drop_flatMap {α : Type} {c : α → List Byte} {w : Nat} (wide : ∀ a, (c a).length = w) (l : List α) (i : Nat) :
    (l.flatMap c).drop (w * i) = (l.drop i).flatMap c := by
  induction l generalizing i with
  | nil => simp
  | cons a l ih =>
    cases i with
    | zero => simp
    | succ i =>
      rw [List.flatMap_cons, List.drop_succ_cons, ← ih, Nat.mul_succ, Nat.add_comm, ← List.drop_drop]
      congr 1
      exact List.drop_left' (wide a)

/-- Tables of one width, one after another from an offset on. -/
theorem Layout.blocks_holds {n : Nat} {table : Fin n → Layout} {c : Fin n → List Byte} {payload : List Byte}
    (before : List Byte) {k w : Nat} (length : before.length = k) (wide : ∀ i, (c i).length = w)
    (h : before ++ (List.finRange n).flatMap c <+: payload) (holds : ∀ i rest, (table i).holds (c i ++ rest)) :
    Layout.holds ((List.finRange n).flatMap fun i => (table i).shifted (k + w * i.val)) payload := by
  obtain ⟨rest, rfl⟩ := h
  have each (i : Fin n) : ((table i).shifted (k + w * i.val)).holds (before ++ (List.finRange n).flatMap c ++ rest) := by
    have split : (List.finRange n).drop i.val = i :: (List.finRange n).drop (i.val + 1) := by
      rw [List.drop_eq_getElem_cons (by simp)]
      simp
    have behind : ((List.finRange n).flatMap c ++ rest).drop (w * i.val) =
        c i ++ (((List.finRange n).drop (i.val + 1)).flatMap c ++ rest) := by
      rw [List.drop_append_of_le_length, drop_flatMap wide, split, List.flatMap_cons, List.append_assoc]
      rw [flatMap_length wide, List.length_finRange]
      exact Nat.mul_le_mul_left w i.isLt.le
    rw [Layout.holds_shifted, ← List.drop_drop, List.append_assoc, ← length, List.drop_left, behind]
    exact holds i _
  intro row hrow
  obtain ⟨i, -, mem⟩ := List.mem_flatMap.1 hrow
  exact each i row mem

/-! ## ZONE_STATUS (R59) -/

theorem sampleBytes_length (v : ZoneSample) : (sampleBytes v).length = 3 := by cases v <;> rfl

theorem sampleItem_eq (q : Zone) : (match q.lastSample with
      | some (.temperature v) => 0 :: s16 v
      | some .openCircuit => [1, 0, 0]
      | some .range => [2, 0, 0]
      | none => [0, 0, 0]) = sampleBytes q.reportedSample := by
  unfold Zone.reportedSample
  rcases q.lastSample with _ | v
  · rfl
  · cases v <;> rfl

/-- One zone's items in the table of R59. -/
theorem zoneTable_holds (x : Press) (z : ZoneId) (rest : List Byte) : (zoneTable x z).holds (zoneContents x z ++ rest) := by
  have rows : zoneTable x z = Layout.items 0 [num8 x.zones[z].sensor.code,
      num8 (if x.zones[z].sensor = .suspect then x.zones[z].badCount else 0),
      num8 (if x.zones[z].sensor = .fault then x.zones[z].goodCount else 0), sampleBytes x.zones[z].reportedSample,
      int16 x.zones[z].lastGood, num16 x.setpoints[z].toNat, num16 x.zones[z].pending, num16 x.zones[z].applied,
      num32 x.zones[z].integral.toNat, num8 x.zones[z].mode.code, num16 x.zones[z].manual, flagByte (x.isActive z),
      flagByte x.zones[z].heater] := by
    simp only [Layout.items, sampleBytes_length, num8_length, num16_length, int16_length, num32_length, flagByte_length]
    rw [← sampleItem_eq, ← codeIn_sensorStates, ← codeIn_zoneModes]
    rfl
  exact Layout.holds_of_items [] _ rfl (by simp [zoneContents, List.append_assoc]) rows

theorem windowItem_eq (s : State) (p : PressId) : (match (s.press p).setup with
      | some u => s.recipes[u.slot].map Recipe.heaterWindow
      | none => none) = (s.recipeOf p).map (·.heaterWindow) := by
  unfold State.recipeOf
  rcases (s.press p).setup with _ | u <;> rfl

/-- The items of ZONE_STATUS before the zones; an OFFLINE press has no window (R59). -/
def zoneStatusHead (s : State) (p : PressId) : List (List Byte) :=
  let x := s.press p
  [[0], optionalItem 4 (fun t : Clock => le32 t) (if decide (x.state ≠ .offline) then x.windowStart else none),
    optionalItem 2 num16 (if decide (x.state ≠ .offline) then (s.recipeOf p).map (·.heaterWindow) else none)]

theorem zoneStatusHead_length (s : State) (p : PressId) : (zoneStatusHead s p).flatten.length = 9 := by
  rw [zoneStatusHead, List.flatten_cons, List.flatten_cons, List.flatten_cons, List.length_append, List.length_append,
    List.length_append, optionalItem_length (width := 4) _ (fun t : Clock => le32_length t),
    optionalItem_length (width := 2) _ num16_length]
  rfl

theorem zoneStatusContents_eq (s : State) (p : PressId) : okReply (zoneStatusContents s p) =
    (zoneStatusHead s p).flatten ++ (List.finRange 8).flatMap (zoneContents (s.press p)) := by
  simp only [zoneStatusContents, zoneStatusHead, List.flatten_cons, List.flatten_nil, List.append_assoc, List.append_nil]
  rfl

theorem zoneStatusContents_length (s : State) (p : PressId) : (okReply (zoneStatusContents s p)).length = 193 := by
  rw [zoneStatusContents_eq, List.length_append, zoneStatusHead_length, flatMap_length (zoneContents_length _),
    List.length_finRange]

/-- ZONE_STATUS's bytes in the table of R59. -/
theorem zoneStatusTable_holds (s : State) (p : PressId) :
    (zoneStatusTable s p).holds (okReply (zoneStatusContents s p)) := by
  have rows : zoneStatusTable s p = Layout.items 0 (zoneStatusHead s p) ++
      (List.finRange 8).flatMap fun z => (zoneTable (s.press p) z).shifted (9 + 23 * z.val) := by
    simp only [zoneStatusHead, Layout.items, optionalItem_length (width := 4) _ (fun t : Clock => le32_length t)]
    rw [← windowItem_eq]
    unfold zoneStatusTable
    by_cases offline : (s.press p).state = .offline
    · simp only [offline, if_true]
      rfl
    · simp only [offline, if_false, not_false_eq_true, ne_eq, decide_true, if_true, given_map]
      rfl
  rw [rows, Layout.holds_append, zoneStatusContents_eq]
  exact ⟨Layout.holds_of_items [] _ rfl (by simp) rfl,
    Layout.blocks_holds (zoneStatusHead s p).flatten (zoneStatusHead_length s p) (zoneContents_length _) List.prefix_rfl
      (zoneTable_holds (s.press p))⟩

/-! ## HEAT_STATUS (R81) -/

/-- A press's seven bytes of HEAT_STATUS. -/
def readinessContents (s : State) (p : PressId) : List Byte :=
  flagByte (s.press p).ready ++ num16 (s.press p).run ++ num16 (s.goalOf p) ++ num8 (s.press p).segment ++
    flagByte (s.press p).frozen

theorem readinessContents_length (s : State) (p : PressId) : (readinessContents s p).length = 7 := rfl

theorem goalItem_eq (s : State) (p : PressId) : (match (s.press p).setup with
      | some u => match s.recipes[u.slot] with
        | some r => if (s.press p).ready = true then r.dropQualify * 4 else r.readyQualify * 4
        | none => 0
      | none => 0) = s.goalOf p := by
  unfold State.goalOf State.recipeOf runGoal
  rcases (s.press p).setup with _ | u
  · rfl
  · rcases found : s.recipes[u.slot] with _ | r <;> simp only [found] <;> rfl

theorem heatStatusContents_eq (s : State) : okReply (heatStatusContents s) =
    [[0], num8 s.heat.state.code, num16 s.heat.remaining, flagByte s.heat.lapse].flatten ++
      (List.finRange 4).flatMap (readinessContents s) := by
  simp only [List.flatten_cons, List.flatten_nil, List.append_assoc, List.append_nil]
  rfl

theorem heatStatusContents_length (s : State) : (okReply (heatStatusContents s)).length = 33 := by
  rw [heatStatusContents_eq, List.length_append, flatMap_length (readinessContents_length s), List.length_finRange]
  rfl

/-- HEAT_STATUS's bytes in the table of R81. -/
theorem heatStatusTable_holds (s : State) : (heatStatusTable s).holds (okReply (heatStatusContents s)) := by
  unfold heatStatusTable
  rw [Layout.holds_append, heatStatusContents_eq, codeIn_heatStates]
  refine ⟨Layout.holds_of_items [] [[0], num8 s.heat.state.code, num16 s.heat.remaining, flagByte s.heat.lapse] rfl
      (by simp) rfl, Layout.blocks_holds _ rfl (readinessContents_length s) List.prefix_rfl fun p rest => ?_⟩
  refine Layout.holds_of_items [] [flagByte (s.press p).ready, num16 (s.press p).run, num16 (s.goalOf p),
    num8 (s.press p).segment, flagByte (s.press p).frozen] rfl (by simp [readinessContents]) ?_
  rw [← goalItem_eq]
  rfl

/-! ## CURE_STATUS (R100, R101) -/

/-- A last-step record's items in the table of R100. -/
theorem stepTable_holds (q : StepRecord) (rest : List Byte) : (stepTable q).holds (q.bytes ++ rest) := by
  have word (v : BitVec 32) : le32 v = num32 v.toNat := by rw [num32, BitVec.ofNat_toNat, BitVec.setWidth_eq]
  have rows : stepTable q = Layout.items 0 [num32 q.time.toNat, num16 q.number, num8 q.counted,
      optionalItem 1 (fun k : StepRate => num8 k.coldest.val) q.rate, optionalItem 2 (fun k : StepRate => int16 k.teff) q.rate,
      optionalItem 2 (fun k : StepRate => int16 k.delta) q.rate,
      optionalItem 1 (fun k : StepRate => num8 k.mode.code) q.rate,
      optionalItem 2 (fun k : StepRate => int16 k.rawExponent) q.rate,
      optionalItem 2 (fun k : StepRate => int16 k.exponent) q.rate,
      optionalItem 1 (fun k : StepRate => int8 k.whole) q.rate, optionalItem 1 (fun k : StepRate => num8 k.fraction) q.rate,
      optionalItem 2 (fun k : StepRate => num16 k.mantissa) q.rate, num32 q.increment, num8 q.decision.code] := by
    unfold stepTable
    simp only [given_map, codeIn_roundingModes, codeIn_decisions, word]
    rcases q.rate with _ | k <;> rfl
  exact Layout.holds_of_items [] _ rfl (by simp [StepRecord.bytes, List.append_assoc]) rows

/-- The items of CURE_STATUS before the last-step record (R101). -/
def cureStatusHead (s : State) (p : PressId) : List (List Byte) :=
  let x := s.press p
  [[0], num8 x.state.code, optionalItem 4 num32 (reportedCure x).1, optionalItem 2 num16 (reportedCure x).2,
    num32 (reportedTarget s p), optionalItem 4 num32 ((reportedCure x).1.map fun acc => reportedTarget s p - acc),
    optionalItem 4 num32 (if x.state.isClosed then
      (x.context.bind fun c => c.panel.closeTime).map fun close => spanMs s.clock close else none),
    optionalItem 4 num32 ((s.recipeOf p).map fun r => r.minClose * 1000),
    optionalItem 4 num32 ((s.recipeOf p).map fun r => r.maxClose * 1000), num8 s.cell.rounding.code]

theorem cureStatusHead_length (s : State) (p : PressId) : (cureStatusHead s p).flatten.length = 35 := by
  simp [cureStatusHead, optionalItem_length (width := 4) _ num32_length, optionalItem_length (width := 2) _ num16_length]

theorem cureContents_eq (s : State) (p : PressId) : okReply (cureContents s p) =
    (cureStatusHead s p).flatten ++ optionalItem 35 StepRecord.bytes (s.press p).lastStep := by
  unfold cureContents okReply
  dsimp only
  rw [cureValues_eq, targetOf_eq]
  simp only [cureStatusHead, List.flatten_cons, List.flatten_nil, List.append_assoc, List.append_nil]
  rfl

theorem cureContents_length (s : State) (p : PressId) : (okReply (cureContents s p)).length = 71 := by
  rw [cureContents_eq, List.length_append, cureStatusHead_length, optionalItem_length _ StepRecord.bytes_length]

theorem closeItem_eq (now : Clock) (x : Press) : given 4 (match x.context with
      | some c => if x.state = .curing ∨ x.state = .demouldDue then
          c.panel.closeTime.map fun close => le32 (now - close) else none
      | none => none) = optionalItem 4 num32 (if x.state.isClosed then
        (x.context.bind fun c => c.panel.closeTime).map fun close => spanMs now close else none) := by
  have closed : x.state.isClosed = true ↔ x.state = .curing ∨ x.state = .demouldDue := by
    cases x.state <;> simp [PressState.isClosed]
  have word (v : BitVec 32) : le32 v = num32 v.toNat := by rw [num32, BitVec.ofNat_toNat, BitVec.setWidth_eq]
  rw [← given_map, apply_ite (Option.map num32)]
  rcases x.context with _ | c
  · simp
  · simp only [closed, Option.bind_some, Option.map_map, word]
    rfl

/-- CURE_STATUS's bytes in the table of R101. -/
theorem cureStatusTable_holds (s : State) (p : PressId) : (cureStatusTable s p).holds (okReply (cureContents s p)) := by
  have rows : cureStatusTable s p = Layout.items 0 (cureStatusHead s p) ++
      Layout.optional 35 35 stepTable (s.press p).lastStep := by
    have step : Layout.optional 35 35 stepTable (s.press p).lastStep =
        (match (s.press p).lastStep with
          | some q => (35, [1]) :: (stepTable q).shifted 36
          | none => [(35, List.replicate 36 0)]) := by
      rcases (s.press p).lastStep with _ | q <;> rfl
    simp only [cureStatusHead, Layout.items, optionalItem_length (width := 4) _ num32_length,
      optionalItem_length (width := 2) _ num16_length, num8_length, num32_length]
    rw [← closeItem_eq, step, ← codeIn_pressStates, ← codeIn_roundingModes, ← given_map, ← given_map, ← given_map,
      ← given_map, ← given_map, Option.map_map, Option.map_map, Option.map_map]
    rfl
  rw [rows, Layout.holds_append, cureContents_eq]
  exact ⟨Layout.holds_of_items [] _ rfl (List.prefix_append _ _) rfl,
    Layout.optional_holds _ (cureStatusHead_length s p) _ List.prefix_rfl stepTable_holds⟩

/-! ## Lists on the wire (R188) -/

section Lists

variable {α : Type} {width : Nat} {write : α → List Byte} (l : List α)

/-- The four places of a list on the wire. -/
def listPlaces (width : Nat) (write : α → List Byte) (l : List α) : List (List Byte) :=
  (List.range 4).map fun i => orZeros width (l[i]?.map write)

/-- A list of at most four entries is its count and its four places, the unused ones 0. -/
theorem listItem_eq (few : l.length ≤ 4) :
    listItem width write l = num8 l.length ++ (listPlaces width write l).flatten := by
  have unused (n : Nat) : List.replicate (n * width) (0 : Byte) = (List.replicate n (List.replicate width 0)).flatten := by
    simp
  have places : listPlaces width write l = [orZeros width (l[0]?.map write), orZeros width (l[1]?.map write),
      orZeros width (l[2]?.map write), orZeros width (l[3]?.map write)] := rfl
  rw [listItem, unused, places]
  match l, few with
  | [], _ => simp [orZeros]
  | [a], _ => simp [orZeros]
  | [a, b], _ => simp [orZeros]
  | [a, b, c], _ => simp [orZeros]
  | [a, b, c, d], _ => simp [orZeros]
  | a :: b :: c :: d :: e :: rest, few => simp at few; omega

theorem listPlaces_rows (wide : ∀ a, (write a).length = width) (k : Nat) :
    Layout.items k (listPlaces width write l) =
      (List.range 4).map fun i => (k + width * i, orZeros width (l[i]?.map write)) := by
  have four : List.range 4 = [0, 1, 2, 3] := rfl
  simp only [listPlaces, four, List.map_cons, List.map_nil, Layout.items, orZeros_map_length _ wide]
  simp only [List.cons.injEq, Prod.mk.injEq, and_true]
  omega

end Lists

/-! ## SCALE_STATUS (R113, R121) -/

theorem verdictTable_holds (v : VerdictRecord) (rest : List Byte) : (verdictTable v).holds (v.bytes ++ rest) := by
  refine Layout.holds_of_items [] [num8 v.verdict.code, int32 v.mass, le32 v.time,
    optionalItem 1 (fun p : PressId => num8 p.val) v.press, optionalItem 4 num32 v.serial, flagByte v.tareStale] rfl
    (by simp [VerdictRecord.bytes]) ?_
  simp only [Layout.items, optionalItem_length (width := 1) _ (fun p : PressId => num8_length p.val),
    optionalItem_length (width := 4) _ num32_length, num8_length, int32_length, le32_length]
  rw [← idxOf_verdicts, ← given_map, ← given_map]
  rfl

theorem scaleSampleItem_eq (c : Scale) : (match c.lastSample with
      | some (.raw value gross net) => [1, 0] ++ s32 value ++ s32 gross ++ s32 net
      | some .overload => [1, 1] ++ List.replicate 12 0
      | none => List.replicate 14 0) = optionalItem 13 ScaleSample.bytes c.lastSample := by
  rcases c.lastSample with _ | v
  · rfl
  · cases v <;> rfl

/-- The items of SCALE_STATUS before the verdict record (R121). -/
def scaleStatusHead (s : State) : List (List Byte) :=
  let c := s.scale
  [[0], num8 c.state.code, optionalItem 13 ScaleSample.bytes c.lastSample, int32 c.lastRaw, int32 c.tare,
    optionalItem 4 int32 c.anchor, num8 c.count, flagByte c.isStable, flagByte c.stale,
    optionalItem 4 int32 (if c.state = .tareFault then c.faultGross else none)]

/-- The items of SCALE_STATUS between the verdict record and the places of the scale queue (R121). -/
def scaleStatusTail (s : State) : List (List Byte) :=
  let c := s.scale
  [int32 c.settings.zero, num32 c.settings.gain, num16 c.settings.band, num8 c.settings.qualify,
    int32 c.settings.placeThreshold, int32 c.settings.emptyThreshold, int32 c.settings.tareLimit,
    num8 s.cell.rounding.code, num8 c.queue.length]

/-- The verdict record that SCALE_STATUS gives: in REMOVE_WAIT alone (R113). -/
def Scale.shownVerdict (c : Scale) : Option VerdictRecord := if c.state = .removeWait then c.held else none

section ScaleStatus

variable (s : State)

theorem scaleStatusHead_length : (scaleStatusHead s).flatten.length = 37 := by
  simp [scaleStatusHead, optionalItem_length (width := 4) _ int32_length,
    optionalItem_length (width := 13) _ ScaleSample.bytes_length]

theorem scaleStatusTail_length : (scaleStatusTail s).flatten.length = 25 := rfl

theorem shownVerdict_length (c : Scale) : (optionalItem 17 VerdictRecord.bytes c.shownVerdict).length = 18 :=
  optionalItem_length _ VerdictRecord.bytes_length

theorem scaleContents_eq (few : s.scale.queue.length ≤ 4) : okReply (scaleContents s) =
    (scaleStatusHead s).flatten ++ optionalItem 17 VerdictRecord.bytes s.scale.shownVerdict ++
      (scaleStatusTail s).flatten ++ (listPlaces 1 (fun p : PressId => num8 p.val) s.scale.queue).flatten := by
  unfold scaleContents okReply
  dsimp only
  rw [listItem_eq _ few]
  simp only [scaleStatusHead, scaleStatusTail, ScaleSettings.bytes, List.flatten_cons, List.flatten_nil, List.append_assoc,
    List.append_nil]
  rfl

theorem scaleContents_length (few : s.scale.queue.length ≤ 4) : (okReply (scaleContents s)).length = 84 := by
  rw [scaleContents_eq s few, List.length_append, List.length_append, List.length_append, scaleStatusHead_length,
    shownVerdict_length, scaleStatusTail_length]
  simp [listPlaces, List.range_succ, orZeros_map_length (width := 1) _ fun p : PressId => num8_length p.val]

/-- SCALE_STATUS's bytes in the table of R121. -/
theorem scaleStatusTable_holds (few : s.scale.queue.length ≤ 4) :
    (scaleStatusTable s).holds (okReply (scaleContents s)) := by
  have head := scaleStatusHead_length s
  have shown := shownVerdict_length s.scale
  have verdict : Layout.optional 37 17 verdictTable s.scale.shownVerdict = (match s.scale.state, s.scale.held with
      | .removeWait, some v => (37, [1]) :: (verdictTable v).shifted 38
      | _, _ => [(37, List.replicate 18 0)]) := by
    unfold Scale.shownVerdict
    rcases s.scale.held with _ | v <;> cases s.scale.state <;> rfl
  have rows : scaleStatusTable s = Layout.items 0 (scaleStatusHead s) ++ Layout.items 55 (scaleStatusTail s) ++
      Layout.optional 37 17 verdictTable s.scale.shownVerdict ++
      Layout.items 80 (listPlaces 1 (fun p : PressId => num8 p.val) s.scale.queue) := by
    rw [verdict, listPlaces_rows _ (fun p : PressId => num8_length p.val)]
    simp only [scaleStatusHead, scaleStatusTail, Layout.items, optionalItem_length (width := 4) _ int32_length,
      optionalItem_length (width := 13) _ ScaleSample.bytes_length, num8_length, num16_length, num32_length, int32_length,
      flagByte_length, Nat.one_mul]
    rw [← scaleSampleItem_eq, ← codeIn_scaleStates, ← codeIn_roundingModes, ← given_map, ← given_map,
      apply_ite (Option.map int32)]
    rfl
  rw [rows, Layout.holds_append, Layout.holds_append, Layout.holds_append, scaleContents_eq s few]
  refine ⟨⟨⟨?_, ?_⟩, ?_⟩, ?_⟩
  · exact Layout.holds_of_items [] _ rfl (by simp) rfl
  · exact Layout.holds_of_items ((scaleStatusHead s).flatten ++ optionalItem 17 VerdictRecord.bytes s.scale.shownVerdict) _
      (by rw [List.length_append, head, shown]) (List.prefix_append _ _) rfl
  · exact Layout.optional_holds (scaleStatusHead s).flatten head _ (by simp) verdictTable_holds
  · exact Layout.holds_of_items ((scaleStatusHead s).flatten ++ optionalItem 17 VerdictRecord.bytes s.scale.shownVerdict ++
      (scaleStatusTail s).flatten) _ (by rw [List.length_append, List.length_append, head, shown]; rfl) List.prefix_rfl rfl

end ScaleStatus

/-! ## HISTORY_STATUS and HISTORY_READ (R136, R137) -/

section HistoryStatus

variable (s : State)

theorem History.nearFull_eq (h : History) : h.nearFull = decide (61 ≤ h.records.length ∨ h.waitList ≠ []) := by
  rw [Bool.eq_iff_iff]
  unfold History.nearFull Config.nearFullCount
  simp

theorem waitEntryBytes_length (p : PressId) : (waitEntryBytes s p).length = 5 := rfl

/-- The items of HISTORY_STATUS before the places of the commit wait list (R136). -/
def historyStatusHead : List (List Byte) :=
  let h := s.history
  [[0], num8 h.records.length, num8 (Config.historyCapacity - h.records.length),
    optionalItem 4 num32 (h.records.head?.map PartRecord.serial), optionalItem 4 num32 (h.records.getLast?.map PartRecord.serial),
    num32 h.nextSerial, flagByte h.exhausted, num8 h.waitList.length]

theorem historyStatusHead_length : (historyStatusHead s).flatten.length = 19 := by
  simp [historyStatusHead, optionalItem_length (width := 4) _ num32_length]

theorem historyPlaces_length : (listPlaces 5 (waitEntryBytes s) s.history.waitList).flatten.length = 20 := by
  simp [listPlaces, List.range_succ, orZeros_map_length (width := 5) _ (waitEntryBytes_length s)]

theorem historyContents_eq (few : s.history.waitList.length ≤ 4) : okReply (historyContents s) =
    (historyStatusHead s).flatten ++ (listPlaces 5 (waitEntryBytes s) s.history.waitList).flatten ++
      [flagByte s.history.nearFull].flatten := by
  unfold historyContents okReply
  dsimp only
  rw [listItem_eq _ few]
  simp only [historyStatusHead, List.flatten_cons, List.flatten_nil, List.append_assoc, List.append_nil]
  rfl

theorem historyContents_length (few : s.history.waitList.length ≤ 4) : (okReply (historyContents s)).length = 40 := by
  rw [historyContents_eq s few, List.length_append, List.length_append, historyStatusHead_length, historyPlaces_length]
  rfl

/-- HISTORY_STATUS's bytes in the table of R136. -/
theorem historyStatusTable_holds (few : s.history.waitList.length ≤ 4) :
    (historyStatusTable s).holds (okReply (historyContents s)) := by
  have head := historyStatusHead_length s
  have rows : historyStatusTable s = Layout.items 0 (historyStatusHead s) ++ Layout.items 39 [flagByte s.history.nearFull] ++
      Layout.items 19 (listPlaces 5 (waitEntryBytes s) s.history.waitList) := by
    rw [listPlaces_rows _ (waitEntryBytes_length s), History.nearFull_eq]
    simp only [historyStatusHead, Layout.items, optionalItem_length (width := 4) _ num32_length, num8_length, num32_length,
      flagByte_length]
    rw [← given_map, ← given_map, Option.map_map, Option.map_map]
    rfl
  rw [rows, Layout.holds_append, Layout.holds_append, historyContents_eq s few]
  refine ⟨⟨?_, ?_⟩, ?_⟩
  · exact Layout.holds_of_items [] _ rfl (by simp) rfl
  · exact Layout.holds_of_items ((historyStatusHead s).flatten ++
      (listPlaces 5 (waitEntryBytes s) s.history.waitList).flatten) _
      (by rw [List.length_append, head, historyPlaces_length]) List.prefix_rfl rfl
  · exact Layout.holds_of_items (historyStatusHead s).flatten _ head (List.prefix_append _ _) rfl

end HistoryStatus

/-! ## ATTN_READ (R163) -/

/-- ATTN_READ's bytes in the table of R163. -/
theorem attnReadTable_holds (a : Attention) : (attnReadTable a).holds (okReply (attentionContents a)) := by
  refine Layout.holds_of_items [] [[0], levelSetBytes a (·.condition), levelSetBytes a (·.request),
    levelSetBytes a (·.inService), levelSetBytes a (·.masked), levelSetBytes a (·.armed), levelSetBytes a (·.edge),
    num16 (setNumber ((List.finRange 12).map a.presentable)), flagByte a.attn, num8 a.lowest.val, flagByte a.openNesting,
    flagByte a.autoEnd, flagByte a.rotateOnAuto] rfl (by simp [okReply, attentionContents]) ?_
  unfold attnReadTable
  simp only [setOf_eq]
  rfl

/-- Settles O49: each status request answers its contents, which stand in their table. -/
theorem statusRequestsOnlyReport : Obligations.StatusRequestsOnlyReport := by
  unfold Obligations.StatusRequestsOnlyReport
  refine fun s free => ⟨fun c table length request => ?_, fun position record at_ => ?_, fun position above => ?_⟩
  · have answered {payload : Reply} (isRequest : c.isRequest = true) (serves : serve c s = (s, payload))
        (table' : s.scale.queue.length ≤ 4 → s.history.waitList.length ≤ 4 →
          payload.length = length ∧ table.holds payload) : ∃ t payload, exec c s = .next t ∧ OnlyAnswers c payload s t ∧
        (s.scale.queue.length ≤ 4 → s.history.waitList.length ≤ 4 → payload.length = length ∧ table.holds payload) := by
      obtain ⟨t, taken, answers⟩ := exec_onlyAnswers isRequest free serves
      exact ⟨t, payload, taken, answers, table'⟩
    rcases request with ⟨p, rfl, rfl, rfl⟩ | ⟨rfl, rfl, rfl⟩ | ⟨p, rfl, rfl, rfl⟩ | ⟨rfl, rfl, rfl⟩ | ⟨rfl, rfl, rfl⟩ |
      ⟨rfl, rfl, rfl⟩
    · exact answered rfl (by simp only [serve, serveZoneStatus, withPress_numberByte])
        fun _ _ => ⟨zoneStatusContents_length s p, zoneStatusTable_holds s p⟩
    · exact answered (payload := okReply (heatStatusContents s)) rfl rfl
        fun _ _ => ⟨heatStatusContents_length s, heatStatusTable_holds s⟩
    · exact answered rfl (by simp only [serve, serveCureStatus, withPress_numberByte])
        fun _ _ => ⟨cureContents_length s p, cureStatusTable_holds s p⟩
    · exact answered (payload := okReply (scaleContents s)) rfl rfl
        fun few _ => ⟨scaleContents_length s few, scaleStatusTable_holds s few⟩
    · exact answered (payload := okReply (historyContents s)) rfl rfl
        fun _ few => ⟨historyContents_length s few, historyStatusTable_holds s few⟩
    · exact answered (payload := okReply (attentionContents s.attention)) rfl rfl
        fun _ _ => ⟨rfl, attnReadTable_holds s.attention⟩
  · have served : serve (.historyRead position) s =
        (s, okReply (num8 position.toNat ++ num8 s.history.records.length ++ record.bytes)) := by
      simp only [serve, serveHistoryRead, at_]
    obtain ⟨t, taken, answers⟩ := exec_onlyAnswers (by rfl) free served
    refine ⟨t, _, taken, answers, ?_, ?_⟩
    · simp [okReply, PartRecord.bytes, PanelRecord.words_length]
    · refine (Layout.holds_append _ _ _).2 ⟨?_, ?_⟩
      · exact Layout.holds_of_items [] [[0], [position], u8 s.history.records.length] rfl
          (by simp [okReply, num8, u8]) rfl
      · exact Layout.shifted_holds ([0] ++ num8 position.toNat ++ num8 s.history.records.length) rfl
          (by simp [okReply, PartRecord.bytes]) (recordTable_holds record.panel (some record.grade))
  · have served : serve (.historyRead position) s = (s, notFoundReply) := by
      simp only [serve, serveHistoryRead, List.getElem?_eq_none above]
    exact exec_onlyAnswers (by rfl) free served

end Sys2Proof.Machine

/-! SUPPORT. POLL: the grant of the presentable level of least rank, and the snapshots of R187 in their tables (8.5, 8.6, 10.8). -/

namespace Sys2Proof.Machine

/-! ## The snapshots (R154, R187) -/

section Snapshots

variable (s : State) (l : LevelId)

theorem faultSet_eq (x : Press) : u8 (faultSet x) = faultZones x := by
  unfold faultSet faultZones
  rw [setOf_eq]
  refine congrArg (fun set => num8 (setNumber set)) (List.map_congr_left fun z _ => ?_)
  unfold Press.isActive
  rcases x.setup with _ | u
  · simp
  · rw [Bool.eq_iff_iff]
    simp only [decide_eq_true_eq, Bool.and_eq_true, beq_iff_eq, and_assoc]

/-- A snapshot of `n` bytes is filled with 0 up to its fourteen bytes. -/
theorem snapshot_eq {bytes : List Byte} (n : Nat) (is : snapshotBytes s l = bytes) (length : bytes.length = n) :
    snapshot s l = bytes ++ List.replicate (14 - n) 0 := by
  rw [snapshot, is, length]

/-- What the scale's level shows of a held verdict, byte by byte (R187). -/
def verdictSnapshot (v : VerdictRecord) : List (List Byte) :=
  [num8 (3 + 8 * v.verdict.code + if v.tareStale = true then 128 else 0),
    match v.press with | some p => num8 p.val | none => [255], int32 v.mass, le32 v.time, num32 (v.serial.getD 0)]

theorem verdictPress_length (v : VerdictRecord) :
    (match v.press with | some p => num8 p.val | none => ([255] : List Byte)).length = 1 := by
  rcases v.press with _ | p <;> rfl

theorem verdictSnapshot_length (v : VerdictRecord) : (verdictSnapshot v).flatten.length = 14 := by
  simp only [verdictSnapshot, List.flatten_cons, List.flatten_nil, List.length_append, verdictPress_length]
  rfl

theorem scaleSnapshot_of_verdict {c : Scale} {v : VerdictRecord} (waits : c.state = .removeWait) (held : c.held = some v) :
    scaleSnapshot c = (verdictSnapshot v).flatten := by
  unfold scaleSnapshot
  simp only [waits, held, if_true, verdictSnapshot, List.flatten_cons, List.flatten_nil, List.append_assoc, List.append_nil]
  rfl

theorem scaleSnapshot_of_none {c : Scale} (none : c.state ≠ .removeWait ∨ c.held = none) : scaleSnapshot c =
    [num8 c.state.code ++ [255], orZeros 4 ((if c.state = .tareFault then c.faultGross else Option.none).map int32),
      List.replicate 8 0].flatten := by
  have unheld : (if c.state = .removeWait then c.held else Option.none) = Option.none := by
    rcases none with other | empty
    · rw [if_neg other]
    · rw [empty, ite_self]
  unfold scaleSnapshot
  rw [unheld, orZeros_map]
  simp

theorem scaleSnapshot_length (c : Scale) : (scaleSnapshot c).length = 14 := by
  by_cases waits : c.state = .removeWait
  · rcases held : c.held with _ | v
    · rw [scaleSnapshot_of_none (.inr held)]
      simp [orZeros_map_length (width := 4) _ int32_length]
    · rw [scaleSnapshot_of_verdict waits held, verdictSnapshot_length]
  · rw [scaleSnapshot_of_none (.inl waits)]
    simp [orZeros_map_length (width := 4) _ int32_length]

theorem snapshotTable_of_verdict {v : VerdictRecord} (waits : s.scale.state = .removeWait) (held : s.scale.held = some v) :
    snapshotTable s 2 = [(5, u8 (3 + 8 * (verdicts.idxOf v.verdict + 1) + if v.tareStale = true then 128 else 0)),
      (6, match v.press with | some p => u8 p.val | none => [255]), (7, s32 v.mass), (11, le32 v.time),
      (15, orZeros 4 (v.serial.map u32))] := by
  unfold snapshotTable
  simp only [waits, held] <;> rfl

theorem snapshotTable_of_tareFault (fault : s.scale.state = .tareFault) : snapshotTable s 2 =
    [(5, [4, 255]), (7, orZeros 4 (s.scale.faultGross.map s32)), (11, List.replicate 8 0)] := by
  unfold snapshotTable
  simp only [fault] <;> rfl

theorem snapshotTable_of_none (none : s.scale.state ≠ .removeWait ∨ s.scale.held = none)
    (noFault : s.scale.state ≠ .tareFault) :
    snapshotTable s 2 = [(5, codeIn scaleStates s.scale.state ++ [255]), (7, List.replicate 12 0)] := by
  unfold snapshotTable
  cases st : s.scale.state
  case removeWait =>
    have held : s.scale.held = Option.none := none.resolve_left (fun other => other st)
    simp only [st, held] <;> rfl
  case tareFault => exact absurd st noFault
  all_goals simp only [st] <;> rfl

/-- The fourteen bytes of the scale's level stand in its rows of R187. -/
theorem scaleSnapshot_holds {before : List Byte} (length : before.length = 5) :
    (snapshotTable s 2).holds (before ++ scaleSnapshot s.scale) := by
  have silent (none : s.scale.state ≠ .removeWait ∨ s.scale.held = none) :
      (snapshotTable s 2).holds (before ++ scaleSnapshot s.scale) := by
    rw [scaleSnapshot_of_none none]
    by_cases fault : s.scale.state = .tareFault
    · refine Layout.holds_of_items before _ length List.prefix_rfl ?_
      rw [snapshotTable_of_tareFault s fault, fault, if_pos rfl]
      simp only [Layout.items, orZeros_map_length (width := 4) _ int32_length]
      rfl
    · rw [if_neg fault]
      refine Layout.holds_of_items before [num8 s.scale.state.code ++ [255], List.replicate 12 0] length List.prefix_rfl ?_
      rw [snapshotTable_of_none s none fault, codeIn_scaleStates]
      rfl
  by_cases waits : s.scale.state = .removeWait
  · rcases held : s.scale.held with _ | v
    · exact silent (.inr held)
    · rw [scaleSnapshot_of_verdict waits held]
      refine Layout.holds_of_items before _ length List.prefix_rfl ?_
      rw [snapshotTable_of_verdict s waits held, idxOf_verdicts, orZeros_u32]
      simp only [verdictSnapshot, Layout.items, verdictPress_length]
      rfl
  · exact silent (.inl waits)

/-- The levels of the presses that DEMOULD_DUE and UNLOAD_WAIT request (R144). -/
theorem snapshotTable_of_lt_eight (low : 4 ≤ l.val) (high : l.val < 8) : snapshotTable s l =
    [(5, codeIn pressStates (s.press (Fin.ofNat 4 l.val)).state), (6, u32 (contextSerial (s.press (Fin.ofNat 4 l.val)))),
      (10, List.replicate 9 0)] := by
  obtain ⟨n, hn⟩ := l
  dsimp only at low high
  interval_cases n <;> rfl

theorem snapshotTable_of_ge_eight (low : 8 ≤ l.val) : snapshotTable s l =
    [(5, codeIn pressStates (s.press (Fin.ofNat 4 l.val)).state), (6, u32 (contextSerial (s.press (Fin.ofNat 4 l.val)))),
      (10, s32 (contextMass (s.press (Fin.ofNat 4 l.val)))), (14, List.replicate 5 0)] := by
  obtain ⟨n, hn⟩ := l
  dsimp only at low
  interval_cases n <;> rfl

/-- The fourteen bytes of a snapshot stand in the table of the level they are formed for. -/
theorem snapshotTable_holds {before : List Byte} (length : before.length = 5) :
    (snapshotTable s l).holds (before ++ snapshot s l) := by
  have filled {n : Nat} (items : List (List Byte)) (is : snapshotBytes s l = items.flatten)
      (wide : items.flatten.length = n) (rows : snapshotTable s l = Layout.items 5 (items ++ [List.replicate (14 - n) 0])) :
      (snapshotTable s l).holds (before ++ snapshot s l) := by
    rw [snapshot_eq s l n is wide]
    exact Layout.holds_of_items before _ length (by simp) rows
  have levels : l.val = 0 ∨ l.val = 1 ∨ l.val = 2 ∨ l.val = 3 ∨ (4 ≤ l.val ∧ l.val < 8) ∨ 8 ≤ l.val := by omega
  rcases levels with at_ | at_ | at_ | at_ | ⟨low, high⟩ | low
  · obtain rfl : l = 0 := Fin.ext at_
    refine filled (n := 5) (num8 (setNumber (allPresses.map fun p => (s.press p).state == .ejectFault)) ::
      allPresses.map fun p => faultZones (s.press p)) rfl rfl ?_
    have set : setNumber (allPresses.map fun p => (s.press p).state == .ejectFault) =
        setOf ((List.finRange 4).map fun p => decide ((s.press p).state = .ejectFault)) := by
      rw [setOf_eq]
      rfl
    have zones (p : PressId) : faultZones (s.press p) = u8 (faultSet (s.press p)) := (faultSet_eq _).symm
    rw [set]
    simp only [zones]
    rfl
  · obtain rfl : l = 1 := Fin.ext at_
    refine filled (n := 4) [num8 s.heat.state.code, num16 s.heat.remaining, flagByte s.heat.lapse] rfl rfl ?_
    rw [← codeIn_heatStates]
    rfl
  · obtain rfl : l = 2 := Fin.ext at_
    have full : snapshot s 2 = scaleSnapshot s.scale := by
      rw [snapshot_eq s 2 14 (bytes := scaleSnapshot s.scale) rfl (scaleSnapshot_length s.scale)]
      simp
    rw [full]
    exact scaleSnapshot_holds s length
  · obtain rfl : l = 3 := Fin.ext at_
    exact filled (n := 2) [num8 s.history.records.length, num8 s.history.waitList.length] rfl rfl rfl
  · refine filled (n := 5) [num8 (s.press (Fin.ofNat 4 l.val)).state.code,
      num32 (contextSerial (s.press (Fin.ofNat 4 l.val)))] ?_ rfl ?_
    · unfold snapshotBytes
      rw [if_neg (by omega), if_neg (by omega), if_neg (by omega), if_neg (by omega), if_pos high]
      simp
    · rw [snapshotTable_of_lt_eight s l low high, ← codeIn_pressStates]
      rfl
  · refine filled (n := 9) [num8 (s.press (Fin.ofNat 4 l.val)).state.code,
      num32 (contextSerial (s.press (Fin.ofNat 4 l.val))), int32 (contextMass (s.press (Fin.ofNat 4 l.val)))] ?_ rfl ?_
    · unfold snapshotBytes
      rw [if_neg (by omega), if_neg (by omega), if_neg (by omega), if_neg (by omega), if_neg (by omega)]
      simp
    · rw [snapshotTable_of_ge_eight s l low, ← codeIn_pressStates]
      rfl

theorem snapshotBytes_length : (snapshotBytes s l).length ≤ 14 := by
  unfold snapshotBytes
  dsimp only
  split_ifs
  · exact (by decide : 5 ≤ 14)
  · exact (by decide : 4 ≤ 14)
  · exact (scaleSnapshot_length s.scale).le
  · exact (by decide : 2 ≤ 14)
  · exact (by decide : 5 ≤ 14)
  · exact (by decide : 9 ≤ 14)

theorem snapshot_length : (snapshot s l).length = 14 := by
  have most := snapshotBytes_length s l
  rw [snapshot, List.length_append, List.length_replicate]
  omega

end Snapshots

/-! ## The grant (R153, R155) -/

section Grant

variable (a : Attention) (l : LevelId)

theorem Attention.grant_levels : (a.grant l).levels = (a.onLevel l (Level.grant a.autoEnd)).levels := by
  unfold Attention.grant
  dsimp only
  split <;> rfl

theorem Attention.grant_lowest : (a.grant l).lowest = if a.autoEnd && a.rotateOnAuto then l else a.lowest := by
  unfold Attention.grant
  dsimp only
  split <;> rfl

/-- A grant moves neither the nesting nor the options, and judges ATTN (R152). -/
theorem Attention.grant_keeps : (a.grant l).openNesting = a.openNesting ∧ (a.grant l).autoEnd = a.autoEnd ∧
    (a.grant l).rotateOnAuto = a.rotateOnAuto ∧
    ((a.grant l).attn = true ↔ ∃ m, (a.grant l).presentable m = true) := by
  unfold Attention.grant
  dsimp only
  split <;> exact ⟨rfl, rfl, rfl, Attention.judge_attn _⟩

end Grant

/-- The first five bytes of a POLL reply that grants a level (10.8). -/
def grantHead (a : Attention) (l : LevelId) : List Byte :=
  [0] ++ num8 l.val ++ flagByte (!a.autoEnd) ++ levelPress l ++ num8 (a.grant l).lowest.val

theorem grantHead_eq (a : Attention) (l : LevelId) : grantHead a l =
    [0, numberByte l, if a.autoEnd then 0 else 1, if l.val < 4 then 255 else numberByte (l.val % 4),
      numberByte (a.grant l).lowest] := by
  unfold grantHead levelPress
  split <;> cases a.autoEnd <;> rfl

theorem servePoll_of_highest {s : State} {l : LevelId} (highest : s.attention.highest = some l) :
    servePoll s = ({ s with attention := s.attention.grant l },
      grantHead s.attention l ++ snapshot { s with attention := s.attention.grant l } l) := by
  simp only [servePoll, highest, grantHead, okReply, List.append_assoc, List.singleton_append] <;> rfl

/-- Settles O50: the ring finds the presentable level of least rank, and the snapshot is formed after the grant. -/
theorem pollGrantsTheHighestLevel : Obligations.PollGrantsTheHighestLevel := by
  unfold Obligations.PollGrantsTheHighestLevel
  refine fun s free => ⟨?grants, fun nothing => ?none⟩
  case grants =>
    rintro l k presentable rfl least
    have served := servePoll_of_highest (ringOrder_find?_of_least presentable least)
    obtain ⟨changes, attention, answer⟩ := State.request_setAttention (c := .poll) free served
    have head : (grantHead s.attention l).length = 5 := by rw [grantHead_eq]; rfl
    obtain ⟨openNesting, autoEnd, rotate, attn⟩ := s.attention.grant_keeps l
    have table := snapshotTable_holds (s.request .poll servePoll) l head
    refine ⟨s.request .poll servePoll, _, exec_of_isRequest (by rfl) s, changes, ?level, fun m other => ?others, ?lowest, ?_,
      ?_, ?_, ?attn, answer, ?length, ?head, ?snapshot⟩
    case level =>
      rw [attention, s.attention.grant_levels l]
      exact Attention.onLevel_level_self ..
    case others =>
      rw [attention, s.attention.grant_levels l]
      exact Attention.onLevel_level_ne _ _ other
    case lowest => rw [attention, s.attention.grant_lowest l]
    case length => rw [List.length_append, head, snapshot_length]
    case head => rw [List.take_left' head, grantHead_eq, attention]
    case snapshot =>
      rw [State.request_of_free _ free, served] at table ⊢
      exact table
    case attn => rw [attention, attn]
    all_goals rw [attention]; assumption
  case none =>
    have highest : s.attention.highest = none := List.find?_eq_none.2 fun l _ => by simp [nothing l]
    have served : serve .poll s = (s, [0, 255, 0, 255, numberByte s.attention.lowest] ++ List.replicate 14 0) := by
      simp only [serve, servePoll, highest]
      rfl
    exact exec_onlyAnswers (by rfl) free served

end Sys2Proof.Machine

/-! SUPPORT. RESTART (9.6.4, R5, R61, R82, R102, R124, R140, R165, R181). -/

namespace Sys2Proof.Machine

section Restart

variable (s : State) (p : PressId)

/-- A press after RESTART with its pins driven: OFFLINE, its forced level off. -/
theorem Press.restart_drive (x : Press) (recipe : Option Recipe) : (x.restart recipe).drive = { x with
    state := .offline, forced := false, openPermit := false, ejector := false, stroke := none,
    changes := ⟨false, false, false, false⟩, windowStart := none, zones := Vector.replicate 8 Zone.reset,
    segment := 0, frozen := false, ready := false, run := 0, lastStep := none,
    setpoints := Vector.ofFn fun z => match recipe with | some r => effectiveSetpoint r .off 0 z | none => 0 } := rfl

/-- A level that RESTART resets takes its condition again (R165). -/
theorem Level.reset_handOn (condition : Bool) : Level.reset.handOn condition =
    { condition := condition, edge := false, request := condition, armed := true, masked := true, inService := false } := rfl

theorem Attention.presentable_of_masked {a : Attention} {l : LevelId} (masked : a.levels[l].masked = true) :
    a.presentable l = false := by
  rw [Attention.presentable, masked, Bool.not_true, Bool.and_false, Bool.false_and, Bool.false_and]

theorem State.restart_onlyChanges : OnlyChanges [.presses, .heat, .scale, .attention] s s.restart := by
  refine OnlyChanges.settle (t := { s.modAll (fun p x => x.restart (s.recipeOf p)) with
    heat := .reset, scale := s.scale.restart, attention := .reset }) ⟨rfl, fun b hb => ?_⟩ (by simp)
  cases b <;> simp_all [State.keeps]

end Restart

/-- Settles O14: RESTART gives each block its value, and the reset controller takes the conditions that still hold. -/
theorem restartQuietensTheCell : Obligations.RestartQuietensTheCell := by
  unfold Obligations.RestartQuietensTheCell
  refine fun s free => ⟨fun idle => ?taken, fun busy => ?refused⟩
  case taken =>
    have closed : s.anyContext = false := by
      refine Bool.eq_false_iff.2 fun busy => ?_
      obtain ⟨p, holds⟩ := s.anyContext_iff.1 busy
      rcases idle p with st | st | st <;> rw [st] at holds <;> cases holds
    have served : serve .restart s = (s.restart, [0]) := by
      simp only [serve, serveRestart, closed, Bool.false_eq_true, if_false]
      rfl
    obtain ⟨levels, lowest, openNesting, autoEnd, rotate, attn⟩ :=
      State.settle_handsOn (s := { s.modAll (fun p x => x.restart (s.recipeOf p)) with
        heat := .reset, scale := s.scale.restart, attention := .reset }) rfl
    have level (l : LevelId) : s.restart.attention.levels[l] =
        { condition := s.restart.condition l, edge := false, request := s.restart.condition l, armed := true,
          masked := true, inService := false } := by
      refine (levels l).trans ?_
      have fresh : Attention.reset.levels[l] = Level.reset := by simp [Attention.reset]
      rw [fresh, Level.reset_handOn]
      rfl
    refine ⟨s.restart.putInHand (requestEntry .restart) [0], ?_, ?_, State.putInHand_answers _ _ rfl, fun p => ?_, rfl, rfl,
      rfl, rfl, level, lowest, openNesting, autoEnd, rotate, ?_⟩
    · rw [exec_of_isRequest (by rfl), State.request_of_free _ free, served]
    · exact (s.restart_onlyChanges.mono (by simp)).putInHand _ _ (by simp)
    · exact (s.restart_press p).trans (Press.restart_drive ..)
    · refine Bool.eq_false_iff.2 fun on => ?_
      obtain ⟨l, presentable⟩ := attn.1 on
      have masked := Attention.presentable_of_masked (a := s.restart.attention) (l := l) (by rw [level])
      exact absurd (presentable.symm.trans masked) nofun
  case refused =>
    have served : serve .restart s = (s, stateReply) := by
      simp only [serve, serveRestart, s.anyContext_iff.2 busy, if_true]
    exact exec_onlyAnswers (by rfl) free served

end Sys2Proof.Machine

/-! SUPPORT. The recipe requests, PRESS_SETUP and ZONE_MODE (2.2..2.5, 3.5, R28..R35, R39, R53, R54). -/

namespace Sys2Proof.Machine

/-! ## The fields' codes -/

theorem slotOf_of_ge {b : Byte} (h : 8 ≤ b.toNat) : slotOf b = none := dif_neg (Nat.not_lt.2 h)

theorem zoneOf_of_ge {b : Byte} (h : 8 ≤ b.toNat) : zoneOf b = none := dif_neg (Nat.not_lt.2 h)

theorem slotOf_of_lt {b : Byte} (h : b.toNat < 8) : slotOf b = some ⟨b.toNat, h⟩ := dif_pos h

theorem gatingOf_of_le {b : Byte} (h : b.toNat ≤ 1) : ∃ g, gatingOf b = some g := by
  rcases eq_zero_or_one_of_toNat_le h with rfl | rfl
  · exact ⟨.autoGate, rfl⟩
  · exact ⟨.monitor, rfl⟩

theorem gatingOf_of_gt {b : Byte} (h : 1 < b.toNat) : gatingOf b = none := by
  have notZero : b ≠ 0 := by bv_omega
  have notOne : b ≠ 1 := by bv_omega
  rw [gatingOf, if_neg notZero, if_neg notOne]

theorem gatingOf_ite (monitor : Bool) :
    gatingOf (if monitor then 1 else 0) = some (if monitor then .monitor else .autoGate) := by
  cases monitor <;> rfl

theorem zoneModeOf_of_ge {b : Byte} (h : 3 ≤ b.toNat) : zoneModeOf b = none := by
  have notZero : b ≠ 0 := by bv_omega
  have notOne : b ≠ 1 := by bv_omega
  have notTwo : b ≠ 2 := by bv_omega
  rw [zoneModeOf, if_neg notZero, if_neg notOne, if_neg notTwo]

theorem code_of_zoneModeOf {b : Byte} {m : ZoneMode} (h : zoneModeOf b = some m) : num8 m.code = [b] := by
  unfold zoneModeOf at h
  split_ifs at h with zero one two <;> cases h
  · rw [zero]
    rfl
  · rw [one]
    rfl
  · rw [two]
    rfl

/-! ## A request that settles the part -/

/-- A request whose owner changes blocks of the part and hands on the conditions. -/
theorem serve_settled {s v : State} {c : Instr} {r : Reply} {blocks : List Block} (request : c.isRequest = true)
    (free : s.link.hand = none) (acts : serve c s = (v.settle, r)) (changes : OnlyChanges blocks s v)
    (attention : v.attention = s.attention) (link : v.link = s.link) :
    ∃ t, exec c s = .next t ∧ OnlyChanges (.attention :: .link :: blocks) s t ∧ HandsOn s t ∧ Answers c r s t ∧
      t.recipes = v.recipes ∧ ∀ p, t.press p = v.press p := by
  refine ⟨v.settle.putInHand (requestEntry c) r, by rw [exec_of_isRequest request, State.request_of_free _ free, acts], ?_,
    (State.settle_handsOn attention).putInHand _ _, State.putInHand_answers c r link, rfl, fun p => ?_⟩
  · exact ((changes.mono fun b hb => by simp [hb]).settle (by simp)).putInHand _ _ (by simp)
  · rw [State.putInHand_press, State.settle_press]

theorem OnlyChanges.modAll (s : State) (f : PressId → Press → Press) : OnlyChanges [.presses] s (s.modAll f) :=
  ⟨rfl, fun b hb => by cases b <;> simp_all [State.keeps]⟩

/-! ## RECIPE_WRITE -/

section RecipeWrite

variable {w : RecipeWire}

theorem Press.adopted_eq {x : Press} (pins : x.Pinned) (r : Recipe) (heat : HeatState) : (x.adopted r heat).drive = { x with
    ready := false
    run := 0
    zones := Vector.ofFn fun z =>
      if x.zones[z].mode = .manual then { x.zones[z] with manual := min x.zones[z].manual r.maxDuty } else x.zones[z]
    setpoints := Vector.ofFn fun z => effectiveSetpoint r heat x.segment z } := by
  rw [pins.drive_of_same]
  rfl

theorem Press.cleared_eq {x : Press} (pins : x.Pinned) (heat : HeatState) : (x.cleared heat).drive =
    { x with setup := none, ready := false, run := 0, setpoints := Vector.replicate 8 0 } := by
  have none : Vector.ofFn (fun _ : ZoneId => (0 : Int)) = Vector.replicate 8 0 := rfl
  rw [pins.drive_of_same, ← none]
  rfl

theorem not_inRange {low high v : Int} : inRange low high v = false ↔ v < low ∨ high < v := by
  rw [← Bool.not_eq_true, inRange_iff, not_and_or, Int.not_le, Int.not_le]

theorem all_inRange_eq_false {α : Type} {n : Nat} {v : Vector α n} {f : α → Int} {low high : Int} :
    (v.toList.all fun a => inRange low high (f a)) = false ↔ ∃ i : Fin n, f v[i] < low ∨ high < f v[i] := by
  simp only [List.all_eq_false, Vector.mem_toList_iff, Vector.mem_iff_getElem, Bool.not_eq_true, not_inRange]
  constructor
  · rintro ⟨_, ⟨i, hi, rfl⟩, out⟩
    exact ⟨⟨i, hi⟩, out⟩
  · rintro ⟨i, out⟩
    exact ⟨_, ⟨i.val, i.isLt, rfl⟩, out⟩

/-- The CLAMPED bytes of the fields that were moved (R30, R188). -/
theorem clampedReply_eq {m3 m4 m5 m8 : Bool} (h3 : m3 = true ↔ w.standbyTemp.toInt < 0 ∨ w.baseTemp.toInt < w.standbyTemp.toInt)
    (h4 : m4 = true ↔ ∃ z : ZoneId, w.zoneTrim[z].toInt < -200 ∨ 200 < w.zoneTrim[z].toInt)
    (h5 : m5 = true ↔ ∃ k : Fin 8, offsetValue w.offsets[k] < -500 ∨ 500 < offsetValue w.offsets[k])
    (h8 : m8 = true ↔ w.maxDuty.toInt < 0 ∨ 1000 < w.maxDuty.toInt) : okReply (num32 (clampedSet w)) =
      [0, (if m3 then 8 else 0) + (if m4 then 16 else 0) + (if m5 then 32 else 0), if m8 then 1 else 0, 0, 0] := by
  have opposite {a b : Bool} {P : Prop} (ha : a = true ↔ P) (hb : b = false ↔ P) : b = !a := by
    have := ha.trans hb.symm
    cases a <;> cases b <;> simp_all
  rw [clampedSet, opposite h3 not_inRange, opposite h4 all_inRange_eq_false, opposite h5 all_inRange_eq_false,
    opposite h8 not_inRange]
  cases m3 <;> cases m4 <;> cases m5 <;> cases m8 <;> rfl

end RecipeWrite

/-- Settles O28: the record is stored with its soft fields clamped, and the presses of the slot adopt it. -/
theorem recipeWriteStoresAndIsAdopted : Obligations.RecipeWriteStoresAndIsAdopted := by
  unfold Obligations.RecipeWriteStoresAndIsAdopted
  intro s n w m3 m4 m5 m8 law free ranges unused h3 h4 h5 h8
  have notInUse : s.slotInUse n = false := Bool.eq_false_iff.2 fun busy => unused ((s.slotInUse_iff n).1 busy)
  have served : serve (.recipeWrite (numberByte n) w) s =
      ((s.storeRecipe n (storedRecipe w)).settle, okReply (num32 (clampedSet w))) := by
    simp [serve, serveRecipeWrite, (failingField_eq_none_iff_inRange w).2 ranges, notInUse]
  have changes : OnlyChanges [.presses, .recipes] s (s.storeRecipe n (storedRecipe w)) :=
    ⟨rfl, fun b hb => by cases b <;> simp_all [State.keeps, State.storeRecipe]⟩
  obtain ⟨t, taken, only, hands, answers, recipes, presses⟩ := serve_settled (by rfl) free served changes rfl rfl
  rw [clampedReply_eq h3 h4 h5 h8] at answers
  refine ⟨t, storedRecipe w, taken, only.mono (by simp), hands, recipes, rfl, rfl, rfl, fun z => ?_, fun k => ⟨?_, ?_⟩, rfl,
    rfl, ?_, rfl, rfl, rfl, rfl, rfl, rfl, rfl, rfl, rfl, rfl, rfl, rfl, rfl, rfl, rfl, answers, fun q x hx => ⟨?_, ?_⟩⟩
  · simp [storedRecipe, clampInt]
  · simp [storedRecipe]
  · simp [storedRecipe, clampInt]
  · simp only [storedRecipe, clampInt]
    omega
  · rintro offline ⟨u, setup, slot⟩
    subst hx
    have adopts : ((s.press q).names n && (s.press q).state == .offline) = true := by
      rw [(Press.names_iff _ n).2 ⟨u, setup, slot⟩, offline]
      rfl
    rw [presses, s.storeRecipe_press, adopts, if_pos rfl]
    exact Press.adopted_eq (law.pinned q) _ _
  · intro other
    subst hx
    have skips : ((s.press q).names n && (s.press q).state == .offline) = false := by
      refine Bool.eq_false_iff.2 fun both => other ?_
      simp only [Bool.and_eq_true, beq_iff_eq, Press.names_iff] at both
      exact ⟨both.2, both.1⟩
    rw [presses, s.storeRecipe_press, skips, if_neg Bool.false_ne_true, (law.pinned q).drive_eq]

/-- Settles O31: the presses of an unused slot are OFFLINE, so that each of them loses its setup. -/
theorem recipeClearEmptiesTheSlot : Obligations.RecipeClearEmptiesTheSlot := by
  unfold Obligations.RecipeClearEmptiesTheSlot
  intro s n law free unused
  have notInUse : s.slotInUse n = false := Bool.eq_false_iff.2 fun busy => unused ((s.slotInUse_iff n).1 busy)
  refine ⟨fun valid => ?_, fun empty => ?_⟩
  · have full : s.recipes[n] ≠ none := fun empty => by simp [empty] at valid
    have served : serve (.recipeClear (numberByte n)) s = ((s.clearRecipe n).settle, okReply []) := by
      simp only [serve, serveRecipeClear, slotOf_numberByte, notInUse, Bool.false_eq_true, if_false, full]
    have changes : OnlyChanges [.presses, .recipes] s (s.clearRecipe n) :=
      ⟨rfl, fun b hb => by cases b <;> simp_all [State.keeps, State.clearRecipe]⟩
    obtain ⟨t, taken, only, hands, answers, recipes, presses⟩ := serve_settled (by rfl) free served changes rfl rfl
    refine ⟨t, taken, only.mono (by simp), hands, answers, recipes, fun q x hx => ⟨?_, ?_⟩⟩
    · rintro ⟨u, setup, slot⟩
      subst hx
      have named := (Press.names_iff _ n).2 ⟨u, setup, slot⟩
      have loses : ((s.press q).names n && (s.press q).state == .offline) = true := by
        rw [named, offline_of_not_inUse unused named]
        rfl
      rw [presses, s.clearRecipe_press, loses, if_pos rfl]
      exact Press.cleared_eq (law.pinned q) _
    · intro other
      subst hx
      have notNamed : (s.press q).names n = false := Bool.eq_false_iff.2 fun named => other ((Press.names_iff _ n).1 named)
      rw [presses, s.clearRecipe_press, notNamed, Bool.false_and, if_neg Bool.false_ne_true, (law.pinned q).drive_eq]
  · have served : serve (.recipeClear (numberByte n)) s = (s, okReply []) := by
      simp only [serve, serveRecipeClear, slotOf_numberByte, notInUse, Bool.false_eq_true, if_false, empty, if_true]
    exact exec_onlyAnswers (by rfl) free served

/-- Settles O32: an OFFLINE press adopts the recipe of the slot that its new setup names. -/
theorem pressSetupIsTaken : Obligations.PressSetupIsTaken := by
  unfold Obligations.PressSetupIsTaken
  rintro s p x n zones monitor r law free rfl offline zones' valid
  have pins : Press.Pinned { s.press p with
      setup := some { slot := n, zones := zones, gating := if monitor then .monitor else .autoGate } } :=
    ⟨(law.pinned p).openPermit, (law.pinned p).ejector, (law.pinned p).forced⟩
  refine serve_modPress (f := fun x => Press.adopted r s.heat.state { x with
    setup := some { slot := n, zones := zones, gating := if monitor then .monitor else .autoGate } }) (by rfl) free ?_
    (Press.adopted_eq pins r s.heat.state)
  simp only [serve, servePressSetup, withPress_numberByte, slotOf_numberByte, zones', if_false, gatingOf_ite, offline, ne_eq,
    not_true_eq_false, valid]
  rfl

/-- Settles O29: each refusal is the first test that fails. -/
theorem recipeAndSetupRequestsAreRefused : Obligations.RecipeAndSetupRequestsAreRefused := by
  unfold Obligations.RecipeAndSetupRequestsAreRefused
  refine fun s free => ⟨fun b w above => ?_, fun n w passed failed field element range ranges before fails => ?_,
    recipeRanges_iff, fun n w ranges busy => ?_, fun b c above request => ?_, fun n empty => ?_, fun n busy => ?_, ?setup⟩
  · exact exec_onlyAnswers (by rfl) free (by simp only [serve, serveRecipeWrite, slotOf_of_ge above] <;> rfl)
  · exact exec_onlyAnswers (by rfl) free
      (by simp only [serve, serveRecipeWrite, slotOf_numberByte, failingField_of_first w ranges before fails] <;> rfl)
  · exact exec_onlyAnswers (by rfl) free (by
      simp only [serve, serveRecipeWrite, slotOf_numberByte, (failingField_eq_none_iff_inRange w).2 ranges,
        (s.slotInUse_iff n).2 busy, if_true] <;> rfl)
  · rcases request with rfl | rfl
    · exact exec_onlyAnswers (by rfl) free (by simp only [serve, serveRecipeRead, slotOf_of_ge above] <;> rfl)
    · exact exec_onlyAnswers (by rfl) free (by simp only [serve, serveRecipeClear, slotOf_of_ge above] <;> rfl)
  · exact exec_onlyAnswers (by rfl) free (by simp only [serve, serveRecipeRead, slotOf_numberByte, empty] <;> rfl)
  · exact exec_onlyAnswers (by rfl) free
      (by simp only [serve, serveRecipeClear, slotOf_numberByte, (s.slotInUse_iff n).2 busy, if_true] <;> rfl)
  case setup =>
    rintro p slot zones gating _ rfl
    have answered {reply : Reply} (served : serve (.pressSetup (numberByte p) slot zones gating) s = (s, reply)) :
        OnlyAnswers (.pressSetup (numberByte p) slot zones gating) reply s
          (s.request (.pressSetup (numberByte p) slot zones gating) (serve (.pressSetup (numberByte p) slot zones gating))) :=
      State.request_onlyAnswers free served
    refine ⟨_, exec_of_isRequest (by rfl) s, fun above => answered ?_, fun slot' none => answered ?_,
      fun slot' some above => answered ?_, fun slot' some gating' service => answered ?_,
      fun n slot' some gating' offline empty => answered ?_⟩
    · simp only [serve, servePressSetup, withPress_numberByte, slotOf_of_ge above] <;> rfl
    · simp only [serve, servePressSetup, withPress_numberByte, slotOf_of_lt slot', none, if_true] <;> rfl
    · simp only [serve, servePressSetup, withPress_numberByte, slotOf_of_lt slot', some, if_false, gatingOf_of_gt above] <;> rfl
    · obtain ⟨g, hg⟩ := gatingOf_of_le gating'
      simp only [serve, servePressSetup, withPress_numberByte, slotOf_of_lt slot', some, if_false, hg, service, ne_eq,
        not_false_eq_true, if_true] <;> rfl
    · obtain ⟨g, hg⟩ := gatingOf_of_le gating'
      subst slot'
      simp only [serve, servePressSetup, withPress_numberByte, slotOf_numberByte, some, if_false, hg, offline, ne_eq,
        not_true_eq_false, empty] <;> rfl

/-! ## ZONE_MODE -/

section ZoneMode

variable (x : Press) (z : ZoneId)

theorem Press.modZone_modZone (f g : Zone → Zone) : (x.modZone z f).modZone z g = x.modZone z (fun q => g (f q)) := by
  simp [Press.modZone]

/-- The zones that hold-off keeps cold but for its mode OFF: the zone is in MANUAL when the duty is taken (R47, R53). -/
theorem Press.takeMode_manual (heat : HeatState) (bound duty : Nat) : x.takeMode heat bound z .manual duty =
    x.modZone z fun q => { q with mode := .manual, manual := min duty bound, pending :=
      if heat = .off ∨ x.state = .offline ∨ x.isActive z = false ∨ q.sensor = .fault then 0 else min duty bound } := by
  have held : (x.modZone z fun q => { q with mode := .manual, manual := min duty bound }).heldOff heat z = true ↔
      heat = .off ∨ x.state = .offline ∨ x.isActive z = false ∨ x.zones[z].sensor = .fault := by
    rw [Press.heldOff_iff, Press.modZone_zone_self]
    simp [Press.modZone_isActive]
  simp only [Press.takeMode, Press.modZone_modZone, held]
  rfl

/-- A mode moves nothing that the pins of its press follow. -/
theorem Press.modZone_drive (pins : x.Pinned) (f : Zone → Zone) : (x.modZone z f).drive = x.modZone z f :=
  pins.drive_of_same

end ZoneMode

section ZoneModeTaken

variable {s : State} {p : PressId} {z : ZoneId} {duty : BitVec 16}

theorem dutyBound_eq {recipe : Option Recipe} {bound : Nat} (given' : ∀ r, recipe = some r → bound = r.maxDuty)
    (none : recipe = none → bound = 1000) : dutyBound recipe = bound := by
  cases recipe with
  | none => exact (none rfl).symm
  | some r => exact (given' r rfl).symm

/-- A mode is taken: the zone becomes what the mode makes of it, and the reply gives mode and stored duty (R53). -/
theorem exec_zoneMode (law : PinLaw s) (free : s.link.hand = none) {code : Byte} {mode : ZoneMode} {f : Zone → Zone}
    (named : zoneModeOf code = some mode)
    (takes : Press.takeMode s.heat.state (dutyBound (s.recipeOf p)) z mode duty.toNat (s.press p) = (s.press p).modZone z f)
    (becomes : (f (s.press p).zones[z]).mode = mode) :
    ∃ t, exec (.zoneMode (numberByte p) (numberByte z) code duty) s = .next t ∧
      OnlyChanges [.presses, .attention, .link] s t ∧ OnlyPress p s t ∧ HandsOn s t ∧
      t.press p = { s.press p with zones := (s.press p).zones.set z (f (s.press p).zones[z]) } ∧
      Answers (.zoneMode (numberByte p) (numberByte z) code duty)
        ([0, code] ++ le16 (BitVec.ofNat 16 (f (s.press p).zones[z]).manual)) s t := by
  have drive : (Press.takeMode s.heat.state (dutyBound (s.recipeOf p)) z mode duty.toNat (s.press p)).drive =
      (s.press p).modZone z f := by rw [takes, Press.modZone_drive _ _ (law.pinned p)]
  have press : (s.modPress p (Press.takeMode s.heat.state (dutyBound (s.recipeOf p)) z mode duty.toNat)).settle.press p =
      (s.press p).modZone z f := by
    rw [State.settle_press, State.modPress_press_self, drive]
  have served : serve (.zoneMode (numberByte p) (numberByte z) code duty) s =
      ((s.modPress p (Press.takeMode s.heat.state (dutyBound (s.recipeOf p)) z mode duty.toNat)).settle,
        [0, code] ++ le16 (BitVec.ofNat 16 (f (s.press p).zones[z]).manual)) := by
    simp only [serve, serveZoneMode, withPress_numberByte, zoneOf_numberByte, named, press, Press.modZone_zone_self, becomes,
      code_of_zoneModeOf named]
    rfl
  obtain ⟨t, taken, only, one, hands, answers, becomes'⟩ := serve_modPress (by rfl) free served drive
  exact ⟨t, taken, only, one, hands, becomes', answers⟩

end ZoneModeTaken

/-- Settles O33: each mode makes one zone what the table gives. -/
theorem zoneModeActsByTheTable : Obligations.ZoneModeActsByTheTable := by
  unfold Obligations.ZoneModeActsByTheTable
  rintro s p x z y duty bound law free rfl rfl given' none
  have bounded := dutyBound_eq given' none
  refine ⟨fun code after table => ?_, fun b code above => ?_, fun code above => ?_⟩
  · rcases table with ⟨rfl, rfl⟩ | ⟨rfl, held, rfl⟩ | ⟨rfl, hot, service, active, sound, rfl⟩ | ⟨rfl, rfl⟩
    · exact exec_zoneMode law free (mode := .auto) (f := fun q => { q with mode := .auto }) rfl rfl rfl
    · refine exec_zoneMode law free (mode := .manual)
        (f := fun q => { q with mode := .manual, manual := min duty.toNat bound, pending := 0 }) rfl ?_ rfl
      rw [Press.takeMode_manual, bounded]
      simp only [Press.modZone, held, if_true]
    · refine exec_zoneMode law free (mode := .manual)
        (f := fun q => { q with mode := .manual, manual := min duty.toNat bound, pending := min duty.toNat bound }) rfl ?_ rfl
      rw [Press.takeMode_manual, bounded]
      simp only [Press.modZone, hot, service, active, sound, or_self, Bool.true_eq_false, if_false]
    · exact exec_zoneMode law free (code := 2) (mode := .off) (f := fun q => { q with mode := .off }.holdOff) rfl rfl rfl
  · exact exec_onlyAnswers (by rfl) free
      (by simp only [serve, serveZoneMode, withPress_numberByte, zoneOf_of_ge above] <;> rfl)
  · exact exec_onlyAnswers (by rfl) free
      (by simp only [serve, serveZoneMode, withPress_numberByte, zoneOf_numberByte, zoneModeOf_of_ge above] <;> rfl)

end Sys2Proof.Machine

/-! SUPPORT. The four rounding modes (7.4), and the heater windows (3.6, R55..R57). -/

namespace Sys2Proof.Machine

/-! ## Rounding -/

section Rounding

variable (num : Int) {den : Nat}

/-- The quotient and the remainder that every mode starts from. -/
theorem quotient_split (positive : 0 < den) : num / (den : Int) * den + num % (den : Int) = num ∧
    0 ≤ num % (den : Int) ∧ num % (den : Int) < den :=
  ⟨Int.ediv_mul_add_emod num den, Int.emod_nonneg _ (by omega), Int.emod_lt_of_pos _ (by omega)⟩

end Rounding

/-- Settles O40: every mode is the quotient or its successor, by the remainder. -/
theorem roundingModesSelectTheirInteger : Obligations.RoundingModesSelectTheirInteger := by
  unfold Obligations.RoundingModesSelectTheirInteger
  intro num den positive
  obtain ⟨split, low, high⟩ := quotient_split num positive
  have zero : num = 0 → num % (den : Int) = 0 := by
    rintro rfl
    exact Int.zero_emod _
  unfold roundQuotient
  dsimp only
  generalize num / (den : Int) = q at split ⊢
  generalize num % (den : Int) = r at split low high zero ⊢
  have next : (q + 1) * (den : Int) = q * den + den := by ring
  have back : (q - 1) * (den : Int) = q * den - den := by ring
  refine ⟨⟨?_, ?_⟩, ⟨?_, ?_⟩, ⟨fun sign => ?_, fun sign => ?_⟩, ?_, fun half => ?_⟩
  · omega
  · rw [next]
    omega
  · split_ifs with exact_
    · rw [back]
      omega
    · rw [add_sub_cancel_right]
      omega
  · split_ifs with exact_
    · omega
    · rw [next]
      omega
  · rw [if_neg fun h => absurd h.1 (by omega)]
  · by_cases exact_ : r = 0
    · rw [if_neg fun h => h.2 exact_, if_pos exact_]
    · rw [if_neg exact_, if_pos ⟨by omega, exact_⟩]
  · split_ifs
    · omega
    · rw [next]
      omega
    · omega
    · rw [next]
      omega
  · split_ifs at half ⊢ with below above even
    · omega
    · rw [next] at half
      omega
    · exact even
    · omega

/-! ## Heater windows -/

/-- An event that changes one press and hands on nothing. -/
theorem exec_modPress_only {s : State} {p : PressId} {c : Instr} {f : Press → Press} {y : Press}
    (event : c.isRequest = false) (acts : s.event c = s.modPress p f) (becomes : (f (s.press p)).drive = y) :
    ∃ t, exec c s = .next t ∧ OnlyChanges [.presses] s t ∧ OnlyPress p s t ∧ t.press p = y :=
  ⟨s.modPress p f, by rw [exec_of_event event, acts], OnlyChanges.modPress s p f, OnlyPress.modPress s p f,
    by rw [State.modPress_press_self, becomes]⟩

/-- Settles O36: a window start and the end of an on-time each change one press, and move no pin. -/
theorem heaterWindowsSwitchTheHeaters : Obligations.HeaterWindowsSwitchTheHeaters := by
  unfold Obligations.HeaterWindowsSwitchTheHeaters
  rintro s p x start r law rfl started recipe
  have pins := law.pinned p
  refine ⟨?_, fun z => ⟨fun ends => ?_, fun fills => ?_⟩⟩
  · refine exec_modPress_only (by rfl) (State.startWindow_eq started recipe) ?_
    rw [pins.drive_of_same]
    rfl
  · exact exec_modPress_only (by rfl) (State.endOnTime_eq started recipe ends) (pins.drive_of_same)
  · rw [exec_of_event (by rfl)]
    exact congrArg _ (State.endOnTime_of_fills s p z recipe (Nat.not_lt.2 fills))

end Sys2Proof.Machine

/-! SUPPORT. The press scan as what it makes of one press and of its place in the scale queue, the parts composed (R43). -/

namespace Sys2Proof.Machine

/-! ## Pins through the parts of the scan -/

/-- A press changed in nothing that its pins follow drives them as it did. -/
theorem Press.drive_eq_of_same {x y : Press} (h : x.drive = x) (state : y.state = x.state) (stroke : y.stroke = x.stroke)
    (forced : y.forced = x.forced) (openPermit : y.openPermit = x.openPermit) (ejector : y.ejector = x.ejector) :
    y.drive = y := by
  have permit : x.openPermit = (x.state == .demouldDue) := (congrArg Press.openPermit h).symm
  have level : x.ejector = x.ejectorLevel := (congrArg Press.ejector h).symm
  rw [permit, ← state] at openPermit
  rw [level, Press.ejectorLevel, ← state, ← stroke, ← forced] at ejector
  cases y
  simp_all [Press.drive, Press.ejectorLevel]

/-- A press as one part of a scan leaves it: the fields no part moves, and those the pins follow (R43). -/
structure Press.ScanKeeps (x y : Press) : Prop where
  state : y.state = x.state
  setup : y.setup = x.setup
  closed : y.closed = x.closed
  contact : y.contact = x.contact
  partClear : y.partClear = x.partClear
  captures : y.captures = x.captures
  stroke : y.stroke = x.stroke
  forced : y.forced = x.forced
  openPermit : y.openPermit = x.openPermit
  ejector : y.ejector = x.ejector
  windowStart : y.windowStart = x.windowStart
  unexpectedClose : y.changes.unexpectedClose = x.changes.unexpectedClose

theorem Press.ScanKeeps.refl (x : Press) : x.ScanKeeps x := by constructor <;> rfl

theorem Press.ScanKeeps.trans {x y z : Press} (h : x.ScanKeeps y) (k : y.ScanKeeps z) : x.ScanKeeps z where
  state := k.state.trans h.state
  setup := k.setup.trans h.setup
  closed := k.closed.trans h.closed
  contact := k.contact.trans h.contact
  partClear := k.partClear.trans h.partClear
  captures := k.captures.trans h.captures
  stroke := k.stroke.trans h.stroke
  forced := k.forced.trans h.forced
  openPermit := k.openPermit.trans h.openPermit
  ejector := k.ejector.trans h.ejector
  windowStart := k.windowStart.trans h.windowStart
  unexpectedClose := k.unexpectedClose.trans h.unexpectedClose

theorem Press.ScanKeeps.driven {x y : Press} (h : x.ScanKeeps y) (pins : x.drive = x) : y.drive = y :=
  Press.drive_eq_of_same pins h.state h.stroke h.forced h.openPermit h.ejector

section Parts

variable (recipe : Option Recipe) (heat : HeatState) (now : Clock) (cell : RoundingMode) (x : Press)

/-- The profile moves, and the setpoints follow (R69, R71). -/
def Press.moved : Press := (x.profiled recipe now).withSetpoints recipe heat

/-- A press after profile, setpoints and readiness (R69, R71, R73). -/
def Press.readied : Press := (x.moved recipe heat now).judged recipe

/-- The profile unit moves segment, freeze and segment reached alone (R71, R72). -/
theorem Press.profiled_spec : ∃ segment frozen context,
    x.profiled recipe now = { x with segment := segment, frozen := frozen, context := context } := by
  unfold Press.profiled Press.moveProfile Press.raiseSegment
  split
  · split
    · split <;> exact ⟨_, _, _, rfl⟩
    · exact ⟨_, _, _, rfl⟩
  · exact ⟨_, _, _, rfl⟩

theorem Press.moved_keeps : x.ScanKeeps (x.moved recipe heat now) := by
  obtain ⟨segment, frozen, context, e⟩ := x.profiled_spec recipe now
  rw [Press.moved, e]
  constructor <;> rfl

/-- A turn of readiness, with the change flag and the cycle flag it sets (R74, R77). -/
theorem Press.turned_eq : x.turned = { x with
    ready := !x.ready
    run := 0
    changes := { x.changes with
      readyRose := x.changes.readyRose || !x.ready, readyFell := x.changes.readyFell || x.ready }
    context := if x.ready && x.state.isMarked then
      x.context.map (CycleContext.onFlags fun f => { f with tempExcursion := true }) else x.context } := by
  unfold Press.turned
  cases ready : x.ready <;> cases marked : x.state.isMarked <;> simp [Press.addFlag, Press.onContext, marked]

/-- The readiness unit moves readiness, its run and two change flags, and a flag of the context (R73..R77). -/
theorem Press.judged_spec : ∃ (ready : Bool) (run : Nat) (rose fell marks : Bool), x.judged recipe = { x with
    ready := ready
    run := run
    changes := { x.changes with readyRose := rose, readyFell := fell }
    context := if marks then x.context.map (CycleContext.onFlags fun f => { f with tempExcursion := true }) else x.context } := by
  unfold Press.judged
  split
  · exact ⟨_, _, _, _, false, rfl⟩
  · split
    · split
      · exact ⟨_, _, _, _, x.ready && x.state.isMarked, x.turned_eq⟩
      · exact ⟨_, _, _, _, false, rfl⟩
    · exact ⟨_, _, _, _, false, rfl⟩

theorem Press.judged_keeps : x.ScanKeeps (x.judged recipe) := by
  obtain ⟨_, _, _, _, _, e⟩ := x.judged_spec recipe
  rw [e]
  constructor <;> rfl

theorem Press.readied_keeps : x.ScanKeeps (x.readied recipe heat now) :=
  (x.moved_keeps recipe heat now).trans (Press.judged_keeps recipe _)

theorem Press.tracked_keeps : x.ScanKeeps x.tracked := by
  unfold Press.tracked
  split <;> constructor <;> rfl

/-- A scan returns a press to HEATING: readiness falls, in CHARGE_WAIT, under AUTO_GATE (R77). -/
def Press.leaves : Prop := x.turns recipe = true ∧ x.ready = true ∧ x.state = .chargeWait ∧ x.setup.map (·.gating) = some .autoGate

/-- A press that has left the queue is not READY, so that AUTO_GATE keeps it out (R78). -/
theorem Press.not_admissible_of_leaves (h : x.leaves recipe) : (x.judged recipe).admissible heat = false := by
  obtain ⟨turns, ready, -, gate⟩ := h
  have fell : (x.judged recipe).ready = false := by
    rcases recipe with _ | r
    · rfl
    · obtain ⟨counts, ends⟩ := Press.turns_iff.1 turns
      rw [Press.judged, if_pos counts, if_pos ends, Press.turned_eq, ready]
      rfl
  have setup := (x.judged_keeps recipe).setup
  unfold Press.admissible
  rw [fell, setup]
  rcases hu : x.setup with _ | u
  · simp
  · have auto : u.gating = .autoGate := by simpa [hu] using gate
    simp [auto]

end Parts

/-! ## The scan of a seated press -/

section Seated

variable (s : State) (p : PressId) (x : Press) (queue : List PressId)

open Classical in
/-- The readiness scan of a press and its place in the queue (R73..R78). -/
theorem State.seat_readinessScan (pins : x.drive = x) (setup : x.setup = (s.press p).setup) :
    (s.seat p x queue).readinessScan p =
      if x.leaves (s.recipeOf p) then
        s.seat p ((x.judged (s.recipeOf p)).enter .heating).drive (queue.filter (· ≠ p))
      else if x.turns (s.recipeOf p) = true ∧ x.ready = false then
        (s.seat p (x.judged (s.recipeOf p)) queue).evaluateAdmission p
      else s.seat p (x.judged (s.recipeOf p)) queue := by
  have judged : (s.seat p x queue).modPress p (Press.judged (s.recipeOf p)) = s.seat p (x.judged (s.recipeOf p)) queue := by
    rw [State.seat_modPress, ((x.judged_keeps _).driven pins)]
  rw [State.readinessScan_eq _ p x (State.seat_press_self ..), State.seat_recipeOf s p queue setup, judged]
  by_cases turns : x.turns (s.recipeOf p) = true
  · rw [if_pos turns]
    by_cases ready : x.ready = true
    · rw [if_pos ready]
      by_cases place : x.state = .chargeWait ∧ x.setup.map (·.gating) = some .autoGate
      · have leaves : x.leaves (s.recipeOf p) := ⟨turns, ready, place⟩
        rw [if_pos place, if_pos leaves, State.withdraw, State.leaveQueue_eq_seat, State.seat_press_self, State.seat_seat,
          State.seat_enterHeating, Press.heated, Press.not_admissible_of_leaves _ _ _ leaves, if_neg Bool.false_ne_true,
          if_neg Bool.false_ne_true]
        rfl
      · rw [if_neg place, if_neg fun h => place h.2.2, if_neg fun h => by simp [ready] at h]
    · rw [if_neg ready, if_neg fun h => ready h.2.1, if_pos ⟨turns, by simpa using ready⟩]
  · rw [if_neg turns, if_neg fun h => turns h.1, if_neg fun h => turns h.1]

theorem State.seat_deviationScan (pins : x.drive = x) : (s.seat p x queue).deviationScan p = s.seat p x.tracked queue := by
  rw [State.deviationScan_eq, State.seat_press_self]
  split
  · rw [State.seat_modPress, (x.tracked_keeps.driven pins)]
  · next other => rw [Press.tracked, if_neg other]

theorem State.seat_cureScan (pins : x.drive = x) (setup : x.setup = (s.press p).setup) : (s.seat p x queue).cureScan p =
    s.seat p (x.cured s.cell.rounding (s.recipeOf p) s.clock).drive queue := by
  have recipe := s.seat_recipeOf p queue setup
  rcases (s.seat p x queue).cureScan_spec p with e | ⟨e, same⟩
  · rw [e, State.seat_modPress, recipe]
    rfl
  · rw [State.seat_press_self, recipe, State.seat_cell, State.seat_clock] at same
    rw [e, same, pins]

end Seated

/-! ## The whole scan -/

section Whole

variable {s : State} {p : PressId} {x : Press}

/-- A press outside CURING and DEMOULD_DUE takes no cure step and no deviation (R80, R83). -/
theorem Press.cured_tracked_of_open (x : Press) (open_ : x.state.isClosed = false) (cell : RoundingMode)
    (recipe : Option Recipe) (now : Clock) : x.tracked.cured cell recipe now = x := by
  have notClosed : ¬x.state.isClosed = true := by simp [open_]
  rw [Press.tracked, if_neg notClosed]
  unfold Press.cured
  exact if_neg notClosed

/-- The cure unit leaves its press in its state, or moves it to DEMOULD_DUE (R13). -/
theorem Press.cured_state (cell : RoundingMode) (recipe : Option Recipe) (now : Clock) (x : Press) :
    (x.cured cell recipe now).state = x.state ∨ (x.cured cell recipe now).state = .demouldDue := by
  unfold Press.cured
  split
  · split
    · rw [Press.cureStep_eq]
      dsimp only
      split
      · exact .inr rfl
      · exact .inr rfl
      · exact .inl rfl
      · exact .inl rfl
    · exact .inl rfl
  · exact .inl rfl

open Classical in
/-- What the press scan makes of a press with its pins driven, and of the scale queue (R43). -/
theorem State.pressScan_eq (hx : s.press p = x) (pins : x.drive = x) : s.pressScan p =
    let b := x.moved (s.recipeOf p) s.heat.state s.clock
    let a := b.judged (s.recipeOf p)
    if x.state.isClosed = true then
      s.seat p (a.tracked.cured s.cell.rounding (s.recipeOf p) s.clock).drive s.scale.queue
    else if b.leaves (s.recipeOf p) then s.seat p (a.enter .heating).drive (s.scale.queue.filter (· ≠ p))
    else if a.joins s.heat.state = true then s.seat p (a.enter .chargeWait).drive (s.scale.queue ++ [p])
    else s.seat p a s.scale.queue := by
  subst hx
  dsimp only
  have moved := (s.press p).moved_keeps (s.recipeOf p) s.heat.state s.clock
  have start : (s.profileScan p).recomputeSetpoints p =
      s.seat p ((s.press p).moved (s.recipeOf p) s.heat.state s.clock) s.scale.queue := by
    rw [State.profileScan_recompute, State.modPress_eq_seat]
    exact congrArg (s.seat p · _) (moved.driven pins)
  have judged := Press.judged_keeps (s.recipeOf p) ((s.press p).moved (s.recipeOf p) s.heat.state s.clock)
  rw [State.pressScan, start, State.seat_readinessScan s p _ _ (moved.driven pins) moved.setup]
  generalize hb : (s.press p).moved (s.recipeOf p) s.heat.state s.clock = b at moved judged ⊢
  have apins : (b.judged (s.recipeOf p)).drive = b.judged (s.recipeOf p) := judged.driven (moved.driven pins)
  have asetup : (b.judged (s.recipeOf p)).setup = (s.press p).setup := judged.setup.trans moved.setup
  have astate : (b.judged (s.recipeOf p)).state = (s.press p).state := judged.state.trans moved.state
  generalize ha : b.judged (s.recipeOf p) = a at judged apins asetup astate ⊢
  have rest (y : Press) (queue : List PressId) (ypins : y.drive = y) (setup : y.setup = (s.press p).setup) :
      (((s.seat p y queue).deviationScan p).cureScan p).evaluateAdmission p =
        (s.seat p (y.tracked.cured s.cell.rounding (s.recipeOf p) s.clock).drive queue).evaluateAdmission p := by
    have tracked := y.tracked_keeps
    rw [State.seat_deviationScan s p y queue ypins, State.seat_cureScan s p _ queue (tracked.driven ypins)
      (tracked.setup.trans setup)]
  have still (y : Press) (queue : List PressId) (ypins : y.drive = y) (setup : y.setup = (s.press p).setup)
      (open_ : y.state.isClosed = false) : (((s.seat p y queue).deviationScan p).cureScan p).evaluateAdmission p =
        (s.seat p y queue).evaluateAdmission p := by
    rw [rest y queue ypins setup, y.cured_tracked_of_open open_, ypins]
  have bstate : b.state = (s.press p).state := moved.state
  have silent (y : Press) (queue : List PressId) (other : y.state ≠ .heating) :
      (s.seat p y queue).evaluateAdmission p = s.seat p y queue :=
    State.seat_evaluateAdmission_of_not_joins s p y queue (by simp [Press.joins, other])
  by_cases closed : (s.press p).state.isClosed = true
  · have notHeating : a.state ≠ .heating := fun h => by simp [astate ▸ h, PressState.isClosed] at closed
    have notLeaves : ¬b.leaves (s.recipeOf p) := fun h => by
      have waits := bstate.symm.trans h.2.2.1
      simp [waits, PressState.isClosed] at closed
    have same : (if b.turns (s.recipeOf p) = true ∧ b.ready = false then (s.seat p a s.scale.queue).evaluateAdmission p
        else s.seat p a s.scale.queue) = s.seat p a s.scale.queue := by
      rw [silent a _ notHeating, ite_self]
    have due : (a.tracked.cured s.cell.rounding (s.recipeOf p) s.clock).drive.state ≠ .heating := by
      rcases Press.cured_state s.cell.rounding (s.recipeOf p) s.clock a.tracked with e | e
      · exact fun h => notHeating (a.tracked_keeps.state.symm.trans (e.symm.trans h))
      · exact fun h => nomatch e.symm.trans h
    rw [if_neg notLeaves, same, if_pos closed, rest a _ apins asetup, silent _ _ due]
  · have open_ : a.state.isClosed = false := by simpa [astate] using closed
    have atRest (y : Press) (queue : List PressId) (ypins : y.drive = y) (setup : y.setup = (s.press p).setup)
        (yopen : y.state.isClosed = false) (notJoins : y.joins s.heat.state = false) :
        (((s.seat p y queue).deviationScan p).cureScan p).evaluateAdmission p = s.seat p y queue := by
      rw [still y queue ypins setup yopen, State.seat_evaluateAdmission_of_not_joins s p y queue notJoins]
    rw [if_neg closed]
    by_cases leaves : b.leaves (s.recipeOf p)
    · rw [if_pos leaves, if_pos leaves]
      refine atRest _ _ (Press.drive_drive _) asetup rfl ?_
      have kept : (a.enter .heating).drive.joins s.heat.state = a.admissible s.heat.state := rfl
      rw [kept, ← ha, Press.not_admissible_of_leaves _ _ _ leaves]
    · rw [if_neg leaves, if_neg leaves]
      cases joins : a.joins s.heat.state with
      | true =>
        rw [State.seat_evaluateAdmission_of_joins s p a _ joins, if_pos rfl]
        split
        · exact atRest _ _ (Press.drive_drive _) asetup rfl rfl
        · rw [still a _ apins asetup open_, State.seat_evaluateAdmission_of_joins s p a _ joins]
      | false =>
        rw [State.seat_evaluateAdmission_of_not_joins s p a _ joins, ite_self, if_neg Bool.false_ne_true]
        exact atRest a _ apins asetup open_ joins

end Whole

end Sys2Proof.Machine

/-! SUPPORT. The sample of a zone, field by field, and what the press scan that may follow leaves of it (3.1, 3.2, R42..R47). -/

namespace Sys2Proof.Machine

/-! ## A sample, field by field -/

section Sample

variable (x : Press) (z : ZoneId) (v : ZoneSample) (heat : HeatState) (recipe : Option Recipe)

/-- The sample moves the zone's sensor into FAULT. -/
def Press.entersFault : Bool := decide ((x.zones[z].sampled v).sensor = .fault) && decide (x.zones[z].sensor ≠ .fault)

/-- The sample moves the zone's sensor out of FAULT. -/
def Press.leavesFault : Bool := decide ((x.zones[z].sampled v).sensor ≠ .fault) && decide (x.zones[z].sensor = .fault)

/-- The context after a sample: an active zone that enters FAULT in a marked state adds SENSOR_FAULT (R46). -/
def Press.sampledContext : Option CycleContext :=
  if x.entersFault z v && x.isActive z && x.state.isMarked then
    x.context.map (CycleContext.onFlags fun f => { f with sensorFault := true })
  else x.context

/-- The zone as a sample leaves it, its pending duty set (R44, R48). -/
def Press.sampledZone : Zone :=
  (x.zones[z].sampled v).setPending ((x.modZone z (Zone.sampled v)).heldOff heat z) recipe x.setpoints[z]

/-- What the sensor's move marks in its press (R46). -/
theorem Press.noteSensor_eq (before : SensorState) :
    x.noteSensor before z =
      let entered := decide (x.zones[z].sensor = .fault) && decide (before ≠ .fault)
      let left := decide (x.zones[z].sensor ≠ .fault) && decide (before = .fault)
      { x with
        changes := { x.changes with zoneFaultChange := x.changes.zoneFaultChange || (entered || left) }
        context := if entered && x.isActive z && x.state.isMarked then
          x.context.map (CycleContext.onFlags fun f => { f with sensorFault := true }) else x.context } := by
  have active (c : ChangeFlags) : ({ x with changes := c } : Press).isActive z = x.isActive z := rfl
  unfold Press.noteSensor
  dsimp only
  generalize (decide (x.zones[z].sensor = .fault) && decide (before ≠ .fault)) = entered
  generalize (decide (x.zones[z].sensor ≠ .fault) && decide (before = .fault)) = left
  cases entered <;> cases left <;> cases on : x.isActive z <;> cases marked : x.state.isMarked <;>
    simp [active, on, marked, Press.addFlag, Press.onContext]

theorem Press.supervised_eq : x.supervised z v = { x with
    zones := x.zones.set z (x.zones[z].sampled v)
    changes := { x.changes with
      zoneFaultChange := x.changes.zoneFaultChange || (x.entersFault z v || x.leavesFault z v) }
    context := x.sampledContext z v } := by
  rw [Press.supervised, Press.noteSensor_eq, Press.modZone_zone_self]
  rfl

theorem Press.zoneSample_fields : x.zoneSample heat recipe z v = { x with
    zones := x.zones.set z (x.sampledZone z v heat recipe)
    changes := { x.changes with
      zoneFaultChange := x.changes.zoneFaultChange || (x.entersFault z v || x.leavesFault z v) }
    context := x.sampledContext z v } := by
  have held : (x.supervised z v).heldOff heat z = (x.modZone z (Zone.sampled v)).heldOff heat z := by
    rw [Press.supervised_eq]
    rfl
  rw [Press.zoneSample_eq, held, Press.supervised_eq]
  simp [Press.modZone, Press.sampledZone]

end Sample

/-! ## A cure step, field by field -/

section Cure

variable (cell : RoundingMode) (r : Recipe) (now : Clock) (c : CycleContext) (x : Press)

/-- The accumulator after a cure step (R95). -/
def Press.curedAccumulator : Nat := min 4294967295 (c.accumulator.getD 0 + StepRate.incrementOf (x.cureRate cell r))

/-- The context that a cure step leaves: accumulator, step count and three flags (R86, R89, R95, R99). -/
theorem Press.curedContext_fields : x.curedContext cell r now c = {
    panel := { c.panel with flags := { c.panel.flags with
      cureStalled := c.panel.flags.cureStalled || (x.cureRate cell r).isNone
      rateClamped := c.panel.flags.rateClamped ||
        (match x.cureRate cell r with | some k => decide (384 < k.rawExponent) | none => false)
      undercure := c.panel.flags.undercure ||
        decide (x.cureDecision cell r now c = .dueAtMaxClose ∧ x.curedAccumulator cell r c < targetCu r) } }
    accumulator := some (x.curedAccumulator cell r c)
    stepCount := some (min 65535 (c.stepCount.getD 0 + 1)) } := by
  have acc : (x.accumulated cell r c).accumulator.getD 0 = x.curedAccumulator cell r c := rfl
  unfold Press.curedContext
  rw [acc]
  generalize x.cureDecision cell r now c = d
  unfold Press.accumulated Press.curedAccumulator
  generalize x.cureRate cell r = rate
  have flags : stepFlags rate c.panel.flags = { c.panel.flags with
      cureStalled := c.panel.flags.cureStalled || rate.isNone
      rateClamped := c.panel.flags.rateClamped ||
        (match rate with | some k => decide (384 < k.rawExponent) | none => false) } := by
    rcases rate with _ | k
    · simp [stepFlags]
    · by_cases above : 384 < k.rawExponent <;> simp [stepFlags, above]
  simp only [CycleContext.accumulate, CycleContext.onFlags, CycleContext.onPanel, flags, Config.accumulatorMax,
    Config.stepCountMax]
  split
  next under => rw [decide_eq_true under, Bool.or_true]
  next notUnder => rw [decide_eq_false notUnder, Bool.or_false]

end Cure

/-! ## What the press scan leaves of a sample -/

/-- The zones, ZONE_FAULT_CHANGE and the flag SENSOR_FAULT of the context, which no part of the scan moves. -/
structure Press.ShowsSample (x y : Press) : Prop where
  zones : y.zones = x.zones
  zoneFaultChange : y.changes.zoneFaultChange = x.changes.zoneFaultChange
  sensorFault : (y.context.map fun c => c.panel.flags.sensorFault) = x.context.map fun c => c.panel.flags.sensorFault

theorem Press.ShowsSample.trans {x y z : Press} (h : x.ShowsSample y) (k : y.ShowsSample z) : x.ShowsSample z :=
  ⟨k.zones.trans h.zones, k.zoneFaultChange.trans h.zoneFaultChange, k.sensorFault.trans h.sensorFault⟩

section Shows

variable (recipe : Option Recipe) (heat : HeatState) (now : Clock) (cell : RoundingMode) (x : Press)

theorem Press.moved_shows : x.ShowsSample (x.moved recipe heat now) := by
  have raised (y : Press) : y.ShowsSample y.raiseSegment :=
    ⟨rfl, rfl, by rw [Press.raiseSegment, Press.onContext, Option.map_map]; rfl⟩
  have profiled : x.ShowsSample (x.profiled recipe now) := by
    unfold Press.profiled
    split
    · split
      · refine Press.ShowsSample.trans ?_ (raised _)
        unfold Press.moveProfile
        split <;> exact ⟨rfl, rfl, rfl⟩
      · exact ⟨rfl, rfl, rfl⟩
    · exact ⟨rfl, rfl, rfl⟩
  exact profiled.trans ⟨rfl, rfl, rfl⟩

theorem Press.judged_shows : x.ShowsSample (x.judged recipe) := by
  obtain ⟨_, _, _, _, marks, e⟩ := x.judged_spec recipe
  rw [e]
  refine ⟨rfl, rfl, ?_⟩
  cases marks
  · rfl
  · exact Option.map_map ..

theorem PanelRecord.track_flags (l : List Int) (r : PanelRecord) : (r.track l).flags = r.flags := by
  cases l <;> rfl

theorem Press.tracked_shows : x.ShowsSample x.tracked := by
  unfold Press.tracked
  split
  · refine ⟨rfl, rfl, ?_⟩
    rw [Press.onContext, Option.map_map]
    exact congrArg (Option.map · x.context) (funext fun c => congrArg _ (PanelRecord.track_flags _ _))
  · exact ⟨rfl, rfl, rfl⟩

theorem Press.cured_shows : x.ShowsSample (x.cured cell recipe now) := by
  unfold Press.cured
  split
  · split
    next c r hc =>
      have context : (x.context.map fun c => c.panel.flags.sensorFault) =
          (some (x.curedContext cell r now c)).map fun c => c.panel.flags.sensorFault := by
        rw [hc, Press.curedContext_fields]
        rfl
      rw [Press.cureStep_eq]
      dsimp only
      split <;> exact ⟨rfl, rfl, context.symm⟩
    next => exact ⟨rfl, rfl, rfl⟩
  · exact ⟨rfl, rfl, rfl⟩

end Shows

/-! ## The sample's event -/

section Event

variable (s : State) (p : PressId) (z : ZoneId) (v : ZoneSample)

/-- The press that a sample leaves before the press scan. -/
def State.sampledPress : Press := ((s.press p).zoneSample s.heat.state (s.recipeOf p) z (deliveredSample v)).drive

/-- The part that a sample leaves before the press scan. -/
def State.sampled : State := s.seat p (s.sampledPress p z v) s.scale.queue

theorem State.sampleZone_eq : s.sampleZone p z v = (if z = 7 then (s.sampled p z v).pressScan p else s.sampled p z v).settle := rfl

theorem State.sampledPress_setup : (s.sampledPress p z v).setup = (s.press p).setup := by
  rw [State.sampledPress, Press.zoneSample_fields]
  rfl

theorem State.sampled_recipeOf : (s.sampled p z v).recipeOf p = s.recipeOf p :=
  s.seat_recipeOf p _ (s.sampledPress_setup p z v)

/-- The scan leaves a press its sample, with what the sample marks. -/
theorem State.pressScan_shows {s : State} {p : PressId} {x : Press} (hx : s.press p = x) (driven : x.drive = x) :
    x.ShowsSample ((s.pressScan p).press p) := by
  have moved := x.moved_shows (s.recipeOf p) s.heat.state s.clock
  have judged := moved.trans (Press.judged_shows (s.recipeOf p) _)
  have entered (st : PressState) {y : Press} (h : x.ShowsSample y) : x.ShowsSample (y.enter st).drive :=
    ⟨h.zones, h.zoneFaultChange, h.sensorFault⟩
  rw [State.pressScan_eq hx driven]
  dsimp only
  split
  · rw [State.seat_press_self]
    have cured := (judged.trans (Press.tracked_shows _)).trans (Press.cured_shows (s.recipeOf p) s.clock s.cell.rounding _)
    exact ⟨cured.zones, cured.zoneFaultChange, cured.sensorFault⟩
  · split
    · rw [State.seat_press_self]
      exact entered _ judged
    · split
      · rw [State.seat_press_self]
        exact entered _ judged
      · rw [State.seat_press_self]
        exact judged

theorem State.sampleZone_shows : (s.sampledPress p z v).ShowsSample ((s.sampleZone p z v).press p) := by
  rw [State.sampleZone_eq, State.settle_press]
  split
  · exact State.pressScan_shows (State.seat_press_self ..) rfl
  · rw [State.sampled, State.seat_press_self]
    exact ⟨rfl, rfl, rfl⟩

open Classical in
theorem State.pressScan_seat {s : State} {p : PressId} (driven : (s.press p).drive = s.press p) :
    ∃ y queue, s.pressScan p = s.seat p y queue := by
  rw [State.pressScan_eq rfl driven]
  dsimp only
  split_ifs <;> exact ⟨_, _, rfl⟩

/-- A sample changes one press and the scale queue, and hands on the conditions (R43). -/
theorem State.sampleZone_seat : ∃ y queue, s.sampleZone p z v = (s.seat p y queue).settle := by
  rw [State.sampleZone_eq]
  split
  · have driven : ((s.sampled p z v).press p).drive = (s.sampled p z v).press p := by
      rw [State.sampled, State.seat_press_self]
      rfl
    obtain ⟨y, queue, e⟩ := State.pressScan_seat driven
    exact ⟨y, queue, by rw [e, State.sampled, State.seat_seat]⟩
  · exact ⟨_, _, rfl⟩

theorem State.sampleZone_onlyPress : OnlyPress p s (s.sampleZone p z v) := by
  obtain ⟨y, queue, e⟩ := s.sampleZone_seat p z v
  rw [e]
  exact OnlyPress.seat s p y queue

theorem State.sampleZone_onlyChanges : OnlyChanges [.presses, .scale, .attention] s (s.sampleZone p z v) := by
  obtain ⟨y, queue, e⟩ := s.sampleZone_seat p z v
  rw [e]
  exact ((OnlyChanges.seat s p y queue).mono (by simp)).settle (by simp)

theorem State.sampleZone_handsOn : HandsOn s (s.sampleZone p z v) := by
  obtain ⟨y, queue, e⟩ := s.sampleZone_seat p z v
  rw [e]
  exact State.settle_handsOn rfl

end Event

/-! ## The sensor's table (R44) -/

section Supervision

variable (y : Zone) (v : ZoneSample)

theorem deliveredSample_of_wellFormed {v : ZoneSample} (h : v.wellFormed = true) : deliveredSample v = v := by
  cases v with
  | temperature t =>
    simp only [ZoneSample.wellFormed, Bool.and_eq_true, decide_eq_true_eq] at h
    exact if_pos h
  | openCircuit => rfl
  | range => rfl

/-- The zone as the table of R44 leaves it, its duties apart. -/
def Zone.supervised : Zone := (y.record v).supervise (goodSample v)

/-- The fields of a zone that the table of R44 and the record of a sample give, and those no sample moves. -/
structure Zone.SameSensor (y z : Zone) : Prop where
  sensor : z.sensor = y.sensor
  badCount : z.badCount = y.badCount
  goodCount : z.goodCount = y.goodCount
  lastSample : z.lastSample = y.lastSample
  lastGood : z.lastGood = y.lastGood
  mode : z.mode = y.mode
  manual : z.manual = y.manual

theorem Zone.sampled_sameSensor : (y.supervised v).SameSensor (y.sampled v) := by
  unfold Zone.sampled Zone.supervised
  dsimp only
  split <;> constructor <;> rfl

theorem Press.sampledZone_sameSensor (x : Press) (z : ZoneId) (heat : HeatState) (recipe : Option Recipe) :
    (x.zones[z].supervised v).SameSensor (x.sampledZone z v heat recipe) := by
  obtain ⟨sensor, badCount, goodCount, lastSample, lastGood, mode, manual⟩ := x.zones[z].sampled_sameSensor v
  obtain ⟨pending, integral, e⟩ := (x.zones[z].sampled v).setPending_spec
    ((x.modZone z (Zone.sampled v)).heldOff heat z) recipe x.setpoints[z]
  unfold Press.sampledZone
  rw [e]
  exact ⟨sensor, badCount, goodCount, lastSample, lastGood, mode, manual⟩

theorem Zone.supervised_keeps : (y.supervised v).mode = y.mode ∧ (y.supervised v).manual = y.manual := by
  obtain ⟨_, _, hr⟩ := y.record_spec v
  obtain ⟨_, _, _, hs⟩ := (y.record v).supervise_spec (goodSample v)
  rw [Zone.supervised, hs, hr]
  exact ⟨rfl, rfl⟩

theorem Zone.supervised_lastSample : (y.supervised v).lastSample = some v := by
  obtain ⟨_, _, _, hs⟩ := (y.record v).supervise_spec (goodSample v)
  rw [Zone.supervised, hs]
  cases v <;> rfl

/-- The rows of the table for a good sample (R44). -/
theorem Zone.supervised_good (t : Int) : (y.supervised (.temperature t)).lastGood = t ∧
    (y.sensor = .good → (y.supervised (.temperature t)).sensor = .good ∧
      (y.supervised (.temperature t)).badCount = y.badCount ∧ (y.supervised (.temperature t)).goodCount = y.goodCount) ∧
    (y.sensor = .suspect → (y.supervised (.temperature t)).sensor = .good ∧
      (y.supervised (.temperature t)).badCount = 0 ∧ (y.supervised (.temperature t)).goodCount = y.goodCount) ∧
    (y.sensor = .fault → y.goodCount < 2 → (y.supervised (.temperature t)).sensor = .fault ∧
      (y.supervised (.temperature t)).goodCount = y.goodCount + 1 ∧
      (y.supervised (.temperature t)).badCount = y.badCount) ∧
    (y.sensor = .fault → 2 ≤ y.goodCount → (y.supervised (.temperature t)).sensor = .good ∧
      (y.supervised (.temperature t)).goodCount = 0 ∧ (y.supervised (.temperature t)).badCount = y.badCount) := by
  refine ⟨?_, fun sensor => ?_, fun sensor => ?_, fun sensor few => ?_, fun sensor many => ?_⟩
  · obtain ⟨_, _, _, hs⟩ := (y.record (.temperature t)).supervise_spec (goodSample (.temperature t))
    rw [Zone.supervised, hs]
    rfl
  · simp [Zone.supervised, Zone.record, goodSample, Zone.supervise, sensor]
  · simp [Zone.supervised, Zone.record, goodSample, Zone.supervise, sensor]
  · have below : ¬3 ≤ y.goodCount + 1 := by omega
    simp only [Zone.supervised, Zone.record, goodSample, Zone.supervise, sensor, if_neg below, and_self]
  · have above : 3 ≤ y.goodCount + 1 := by omega
    simp only [Zone.supervised, Zone.record, goodSample, Zone.supervise, sensor, if_pos above, and_self]

/-- The rows of the table for a bad sample (R44). -/
theorem Zone.supervised_bad (bad : ∀ t, v ≠ .temperature t) : (y.supervised v).lastGood = y.lastGood ∧
    (y.sensor = .good → (y.supervised v).sensor = .suspect ∧ (y.supervised v).badCount = 1 ∧
      (y.supervised v).goodCount = y.goodCount) ∧
    (y.sensor = .suspect → y.badCount < 2 → (y.supervised v).sensor = .suspect ∧
      (y.supervised v).badCount = y.badCount + 1 ∧ (y.supervised v).goodCount = y.goodCount) ∧
    (y.sensor = .suspect → 2 ≤ y.badCount → (y.supervised v).sensor = .fault ∧ (y.supervised v).badCount = 0 ∧
      (y.supervised v).goodCount = 0) ∧
    (y.sensor = .fault → (y.supervised v).sensor = .fault ∧ (y.supervised v).goodCount = 0 ∧
      (y.supervised v).badCount = y.badCount) := by
  have poor : goodSample v = false := by
    cases v with
    | temperature t => exact absurd rfl (bad t)
    | openCircuit => rfl
    | range => rfl
  have recorded : ∃ last, y.record v = { y with lastSample := last } := by
    cases v with
    | temperature t => exact absurd rfl (bad t)
    | openCircuit => exact ⟨_, rfl⟩
    | range => exact ⟨_, rfl⟩
  obtain ⟨last, record⟩ := recorded
  unfold Zone.supervised
  rw [poor, record]
  refine ⟨?_, fun sensor => ?_, fun sensor few => ?_, fun sensor many => ?_, fun sensor => ?_⟩
  · obtain ⟨_, _, _, hs⟩ := ({ y with lastSample := last } : Zone).supervise_spec false
    rw [hs]
  · simp [Zone.supervise, sensor]
  · have below : ¬3 ≤ y.badCount + 1 := by omega
    simp only [Zone.supervise, sensor, if_neg below, and_self]
  · have above : 3 ≤ y.badCount + 1 := by omega
    simp only [Zone.supervise, sensor, if_pos above, and_self]
  · simp [Zone.supervise, sensor]

end Supervision

/-- Settles O34: the zone is what the table of R44 gives, and the scan that may follow leaves it so. -/
theorem zoneSampleSupervisesTheSensor : Obligations.ZoneSampleSupervisesTheSensor := by
  unfold Obligations.ZoneSampleSupervisesTheSensor
  rintro s p x z y v law rfl rfl formed
  have delivered := deliveredSample_of_wellFormed formed
  have driven : s.sampledPress p z v = (s.press p).zoneSample s.heat.state (s.recipeOf p) z v := by
    rw [State.sampledPress, delivered]
    refine Press.drive_eq_of_same (law.drive_eq p) ?_ ?_ ?_ ?_ ?_ <;> rw [Press.zoneSample_fields]
  have shows := s.sampleZone_shows p z v
  rw [driven, Press.zoneSample_fields] at shows
  obtain ⟨zones, zoneFaultChange, sensorFault⟩ := shows
  have sampledSensor : ((s.press p).zones[z].sampled v).sensor = ((s.press p).zones[z].supervised v).sensor :=
    ((s.press p).zones[z].sampled_sameSensor v).sensor
  obtain ⟨sensor, badCount, goodCount, lastSample, lastGood, mode, manual⟩ :=
    (s.press p).sampledZone_sameSensor v z s.heat.state (s.recipeOf p)
  refine ⟨s.sampleZone p z v, (s.press p).sampledZone z v s.heat.state (s.recipeOf p), (s.press p).sampledContext z v,
    exec_zoneSample s p z v, s.sampleZone_onlyPress p z v, s.sampleZone_handsOn p z v, zones, ?_, ?_, ?_, ?good, ?bad, ?crosses,
    ?context, sensorFault, fun notLast => ?alone, fun _ => s.sampleZone_onlyChanges p z v⟩
  · rw [lastSample, Zone.supervised_lastSample]
  · rw [mode, (Zone.supervised_keeps _ v).1]
  · rw [manual, (Zone.supervised_keeps _ v).2]
  case good =>
    rintro t rfl
    rw [lastGood, sensor, badCount, goodCount]
    exact Zone.supervised_good _ t
  case bad =>
    intro bad
    rw [lastGood, sensor, badCount, goodCount]
    exact Zone.supervised_bad _ v bad
  case crosses =>
    rw [zoneFaultChange, sensor, ← sampledSensor]
    simp only [Press.entersFault, Press.leavesFault, Bool.or_eq_true, Bool.and_eq_true, decide_eq_true_eq]
    tauto
  case context =>
    have marked : (s.press p).state.isMarked = true ↔
        (s.press p).state = .chargeReady ∨ (s.press p).state = .curing ∨ (s.press p).state = .demouldDue := by
      cases (s.press p).state <;> simp [PressState.isMarked]
    unfold Press.sampledContext Press.entersFault
    simp only [Bool.and_eq_true, decide_eq_true_eq, and_assoc, marked, sensor, sampledSensor]
    rfl
  case alone =>
    have same : s.sampleZone p z v = (s.sampled p z v).settle := by rw [State.sampleZone_eq, if_neg notLast]
    refine ⟨?_, ?_⟩
    · rw [same]
      exact ((OnlyChanges.modPress s p _).mono (by simp)).settle (by simp)
    · have press : (s.sampleZone p z v).press p = (s.press p).zoneSample s.heat.state (s.recipeOf p) z v := by
        rw [same, State.settle_press, State.sampled, State.seat_press_self, driven]
      rw [press, Press.zoneSample_fields]

end Sys2Proof.Machine

/-! SUPPORT. The profile at a press scan (4.2, 4.3, R68..R72). -/

namespace Sys2Proof.Machine

/-! ## Segments -/

section Segments

variable (r : Recipe)

theorem profileLength_le : profileLength r ≤ 8 :=
  ((List.takeWhile_prefix _).length_le.trans_eq r.durations.length_toList)

theorem duration_ne_zero {k : Fin 8} (h : k.val < profileLength r) : r.durations[k] ≠ 0 := by
  have mem : (r.durations.toList.takeWhile (· ≠ 0))[k.val]'h ∈ r.durations.toList.takeWhile (· ≠ 0) := List.getElem_mem h
  have timed := List.mem_takeWhile_imp mem
  rw [List.IsPrefix.getElem (List.takeWhile_prefix _) h] at timed
  simpa using timed

/-- The element that ends the longest run of a test at the head of a list fails it. -/
theorem takeWhile_stops {α : Type} (test : α → Bool) (l : List α) (h : (l.takeWhile test).length < l.length) :
    test l[(l.takeWhile test).length] = false := by
  induction l with
  | nil => simp at h
  | cons a l ih =>
    cases passes : test a with
    | true =>
      simp only [List.takeWhile_cons_of_pos passes, List.length_cons, Nat.add_lt_add_iff_right] at h ⊢
      exact ih h
    | false =>
      have none : (a :: l).takeWhile test = [] := List.takeWhile_cons_of_neg (by simp [passes])
      simp [none, passes]

theorem duration_eq_zero {k : Fin 8} (h : k.val = profileLength r) : r.durations[k] = 0 := by
  have place : k.val = (r.durations.toList.takeWhile (· ≠ 0)).length := h
  have inside : (r.durations.toList.takeWhile (· ≠ 0)).length < r.durations.toList.length := by
    rw [← place, Vector.length_toList]
    exact k.isLt
  have stops := takeWhile_stops _ r.durations.toList inside
  have here : r.durations.toList[(r.durations.toList.takeWhile (· ≠ 0)).length] = r.durations[k] :=
    (getElem_congr_idx place.symm).trans (Vector.getElem_toList _)
  rw [here] at stops
  simpa using stops

/-- The end of a segment is the end of the one before and its duration (R70). -/
theorem segmentEnd_succ (k : Fin 8) : segmentEnd r (k.val + 1) = segmentEnd r k.val + r.durations[k] * 1000 := by
  have inside : k.val < r.durations.toList.length := by simp
  rw [segmentEnd, segmentEnd, List.take_succ_eq_append_getElem inside, List.sum_append, List.sum_singleton, Nat.add_mul]
  simp

theorem segmentEnd_zero : segmentEnd r 0 = 0 := by simp [segmentEnd]

/-- The ends of the segments are the only function that R70 allows. -/
theorem SegmentEnds.eq {r : Recipe} {C : Nat → Nat} (h : SegmentEnds r C) {k : Nat} (le : k ≤ 8) : C k = segmentEnd r k := by
  induction k with
  | zero => rw [h.1, segmentEnd_zero]
  | succ k ih => rw [h.2 ⟨k, by omega⟩, segmentEnd_succ r ⟨k, by omega⟩, ih (by omega)]

theorem segmentEnd_mono {j k : Nat} (h : j ≤ k) (le : k ≤ 8) : segmentEnd r j ≤ segmentEnd r k := by
  induction k with
  | zero => rw [Nat.le_zero.1 h]
  | succ k ih =>
    rcases Nat.lt_or_eq_of_le h with lt | rfl
    · rw [segmentEnd_succ r ⟨k, by omega⟩]
      exact (ih (by omega) (by omega)).trans (Nat.le_add_right _ _)
    · exact le_rfl

/-- While a segment has not ended, the profile stands in the first such one (R71). -/
theorem segmentAt_of_lt {elapsed : Nat} (h : elapsed < segmentEnd r (profileLength r)) :
    1 ≤ segmentAt r elapsed ∧ segmentAt r elapsed ≤ profileLength r ∧ elapsed < segmentEnd r (segmentAt r elapsed) ∧
      ∀ k, 1 ≤ k → k < segmentAt r elapsed → segmentEnd r k ≤ elapsed := by
  have timed : profileLength r ≠ 0 := by
    intro none
    rw [none, segmentEnd_zero] at h
    exact absurd h (Nat.not_lt_zero _)
  unfold segmentAt
  dsimp only
  rw [if_neg timed]
  cases found : (List.range' 1 (profileLength r)).find? fun k => decide (elapsed < segmentEnd r k) with
  | none =>
    have none := List.find?_eq_none.1 found (profileLength r) (by simp; omega)
    exact absurd h (by simpa using none)
  | some k =>
    obtain ⟨running, mem, ended⟩ := List.find?_range'_eq_some.1 found
    rw [List.mem_range'_1] at mem
    dsimp only
    refine ⟨mem.1, Nat.le_of_lt_succ (by omega), by simpa using running, fun j low high => ?_⟩
    simpa using ended j low high

/-- After the last segment's end the profile stays in that segment (R71). -/
theorem segmentAt_of_ge {elapsed : Nat} (timed : 1 ≤ profileLength r) (h : segmentEnd r (profileLength r) ≤ elapsed) :
    segmentAt r elapsed = profileLength r := by
  have none : (List.range' 1 (profileLength r)).find? (fun k => decide (elapsed < segmentEnd r k)) = none := by
    refine List.find?_eq_none.2 fun k mem => ?_
    rw [List.mem_range'_1] at mem
    have le := segmentEnd_mono r (j := k) (k := profileLength r) (by omega) (profileLength_le r)
    simpa using le.trans h
  unfold segmentAt
  dsimp only
  rw [if_neg (by omega), none]

theorem segmentAt_of_no_segment {elapsed : Nat} (h : profileLength r = 0) : segmentAt r elapsed = 1 := if_pos h

theorem segmentOffset_succ (k : Fin 8) : segmentOffset r (k.val + 1) = if profileLength r = 0 then 0 else r.offsets[k] := by
  unfold segmentOffset
  simp

end Segments

/-! ## What the scan leaves of the profile -/

/-- Segment, freeze, setpoints and segment reached, which no part of the scan after the profile moves. -/
structure Press.KeepsProfile (x y : Press) : Prop where
  segment : y.segment = x.segment
  frozen : y.frozen = x.frozen
  setpoints : y.setpoints = x.setpoints
  reached : (y.context.map fun c => c.panel.segmentReached) = x.context.map fun c => c.panel.segmentReached

theorem Press.KeepsProfile.trans {x y z : Press} (h : x.KeepsProfile y) (k : y.KeepsProfile z) : x.KeepsProfile z :=
  ⟨k.segment.trans h.segment, k.frozen.trans h.frozen, k.setpoints.trans h.setpoints, k.reached.trans h.reached⟩

section Keeps

variable (recipe : Option Recipe) (now : Clock) (cell : RoundingMode) (x : Press)

theorem Press.judged_keepsProfile : x.KeepsProfile (x.judged recipe) := by
  obtain ⟨_, _, _, _, marks, e⟩ := x.judged_spec recipe
  rw [e]
  refine ⟨rfl, rfl, rfl, ?_⟩
  cases marks
  · rfl
  · exact Option.map_map ..

theorem PanelRecord.track_reached (l : List Int) (r : PanelRecord) : (r.track l).segmentReached = r.segmentReached := by
  cases l <;> rfl

theorem Press.tracked_keepsProfile : x.KeepsProfile x.tracked := by
  unfold Press.tracked
  split
  · refine ⟨rfl, rfl, rfl, ?_⟩
    rw [Press.onContext, Option.map_map]
    exact congrArg (Option.map · x.context) (funext fun c => PanelRecord.track_reached _ _)
  · exact ⟨rfl, rfl, rfl, rfl⟩

theorem Press.cured_keepsProfile : x.KeepsProfile (x.cured cell recipe now) := by
  unfold Press.cured
  split
  · split
    next c r hc =>
      have context : (x.context.map fun c => c.panel.segmentReached) =
          (some (x.curedContext cell r now c)).map fun c => c.panel.segmentReached := by
        rw [hc, Press.curedContext_fields]
        rfl
      rw [Press.cureStep_eq]
      dsimp only
      split <;> exact ⟨rfl, rfl, rfl, context.symm⟩
    next => exact ⟨rfl, rfl, rfl, rfl⟩
  · exact ⟨rfl, rfl, rfl, rfl⟩

/-- The press that the scan leaves stands where the profile unit put it. -/
theorem State.pressScan_keepsProfile {s : State} {p : PressId} (hx : s.press p = x) (driven : x.drive = x) :
    (x.moved (s.recipeOf p) s.heat.state s.clock).KeepsProfile ((s.pressScan p).press p) := by
  have judged := Press.judged_keepsProfile (s.recipeOf p) (x.moved (s.recipeOf p) s.heat.state s.clock)
  have entered (st : PressState) {y : Press} (h : (x.moved (s.recipeOf p) s.heat.state s.clock).KeepsProfile y) :
      (x.moved (s.recipeOf p) s.heat.state s.clock).KeepsProfile (y.enter st).drive :=
    ⟨h.segment, h.frozen, h.setpoints, h.reached⟩
  rw [State.pressScan_eq hx driven]
  dsimp only
  split
  · rw [State.seat_press_self]
    have cured := (judged.trans (Press.tracked_keepsProfile _)).trans
      (Press.cured_keepsProfile (s.recipeOf p) s.clock s.cell.rounding _)
    exact ⟨cured.segment, cured.frozen, cured.setpoints, cured.reached⟩
  · split
    · rw [State.seat_press_self]
      exact entered _ judged
    · split
      · rw [State.seat_press_self]
        exact entered _ judged
      · rw [State.seat_press_self]
        exact judged

end Keeps

/-! ## The profile that zone 7's sample moves -/

section Profile

variable {s : State} {p : PressId} {z : ZoneId} {v : ZoneSample}

/-- A sample moves flags of the context alone (R46). -/
theorem Press.sampledContext_spec (x : Press) (z : ZoneId) (v : ZoneSample) :
    ∃ g, x.sampledContext z v = x.context.map (CycleContext.onFlags g) := by
  unfold Press.sampledContext
  split
  · exact ⟨_, rfl⟩
  · refine ⟨id, ?_⟩
    cases x.context <;> rfl

/-- The press that a sample leaves, in the fields the scan reads. -/
theorem State.sampledPress_spec : ∃ g, (s.sampledPress p z v).context = (s.press p).context.map (CycleContext.onFlags g) ∧
    (s.sampledPress p z v).state = (s.press p).state ∧ (s.sampledPress p z v).segment = (s.press p).segment ∧
    (s.sampledPress p z v).frozen = (s.press p).frozen := by
  obtain ⟨g, context⟩ := (s.press p).sampledContext_spec z (deliveredSample v)
  refine ⟨g, ?_⟩
  rw [State.sampledPress, Press.zoneSample_fields]
  exact ⟨context, rfl, rfl, rfl⟩

theorem Press.isClosed_iff (x : Press) : x.state.isClosed = true ↔ x.state = .curing ∨ x.state = .demouldDue := by
  cases x.state <;> simp [PressState.isClosed]

theorem Press.profiled_of_open {x : Press} (recipe : Option Recipe) (now : Clock) (h : ¬x.state.isClosed = true) :
    x.profiled recipe now = x := if_neg h

/-- A frozen profile stays, and so does an inactive one (R71). -/
theorem Press.moved_of_still {x : Press} (recipe : Option Recipe) (heat : HeatState) (now : Clock)
    (still : (x.state ≠ .curing ∧ x.state ≠ .demouldDue) ∨ x.frozen = true) :
    (x.moved recipe heat now).segment = x.segment ∧ (x.moved recipe heat now).frozen = x.frozen := by
  rcases still with other | frozen
  · rw [Press.moved, Press.profiled_of_open recipe now (fun closed => by rcases x.isClosed_iff.1 closed with e | e
                                                                         · exact other.1 e
                                                                         · exact other.2 e)]
    exact ⟨rfl, rfl⟩
  · unfold Press.moved Press.profiled Press.moveProfile
    simp only [frozen, if_true]
    split
    · split <;> exact ⟨rfl, frozen⟩
    · exact ⟨rfl, frozen⟩

/-- An active profile moves by the time since close (R71). -/
theorem Press.moved_of_active {x : Press} {r : Recipe} {c : CycleContext} {close : Clock} (heat : HeatState) (now : Clock)
    (closed : x.state = .curing ∨ x.state = .demouldDue) (context : x.context = some c)
    (time : c.panel.closeTime = some close) :
    x.moved (some r) heat now = ((x.moveProfile r now close).raiseSegment).withSetpoints (some r) heat := by
  unfold Press.moved Press.profiled
  rw [if_pos (x.isClosed_iff.2 closed), context, Option.bind_some, time]

theorem Press.moveProfile_of_free {x : Press} {r : Recipe} {now close : Clock} (free : x.frozen = false) :
    (x.moveProfile r now close).segment = segmentAt r (now - close).toNat ∧
      ((x.moveProfile r now close).frozen = true ↔
        segmentEnd r (profileLength r) ≤ (now - close).toNat ∨ 3600000 ≤ (now - close).toNat) := by
  unfold Press.moveProfile
  rw [if_neg (by simp [free])]
  refine ⟨rfl, ?_⟩
  simp only [Bool.or_eq_true, decide_eq_true_eq]
  rfl

end Profile

/-- Settles O37: the scan stands on the profile unit's segment, which R71's table gives. -/
theorem setpointsFollowTheProfile : Obligations.SetpointsFollowTheProfile := by
  unfold Obligations.SetpointsFollowTheProfile
  refine ⟨fun r heat segment z wanted table => ?_, fun r => ⟨⟨profileLength_le r, fun k h => duration_ne_zero r h,
    fun k h => duration_eq_zero r h⟩, if_pos (.inl rfl), segmentOffset_succ r⟩, ?scan⟩
  · rcases table with ⟨rfl, rfl⟩ | ⟨rfl, rfl⟩ | ⟨rfl, rfl⟩ <;> rfl
  case scan =>
    rintro s p x v rfl
    obtain ⟨g, context, state, segment, frozen⟩ := State.sampledPress_spec (s := s) (p := p) (z := 7) (v := v)
    have kept : ((s.sampledPress p 7 v).moved (s.recipeOf p) s.heat.state s.clock).KeepsProfile
        ((s.sampleZone p 7 v).press p) := by
      have scanned := State.pressScan_keepsProfile (s := s.sampled p 7 v) (p := p) (s.sampledPress p 7 v)
        (State.seat_press_self ..) rfl
      rw [s.sampled_recipeOf] at scanned
      rw [State.sampleZone_eq, if_pos rfl, State.settle_press]
      exact scanned
    generalize hy : (s.sampleZone p 7 v).press p = y at kept
    generalize hx : s.sampledPress p 7 v = x at context state segment frozen kept
    obtain ⟨ysegment, yfrozen, ysetpoints, yreached⟩ := kept
    refine ⟨s.sampleZone p 7 v, y, exec_zoneSample s p 7 v, hy, fun z => ?_, fun still => ?_,
      fun r C c close length elapsed recipe ends closed hc time hl he => ?active⟩
    · have at_ : y.setpoints[z] = (x.moved (s.recipeOf p) s.heat.state s.clock).setpoints[z] :=
        congrArg (fun v : Vector Int 8 => v[z]) ysetpoints
      rw [at_, ysegment]
      refine ⟨fun r recipe => ?_, fun none => ?_⟩
      · rw [Press.moved, recipe, Press.withSetpoints_setpoint]
        rfl
      · rw [Press.moved, none, Press.withSetpoints_setpoint]
    · rw [← state, ← frozen] at still
      obtain ⟨same, same'⟩ := Press.moved_of_still (s.recipeOf p) s.heat.state s.clock still
      exact ⟨ysegment.trans (same.trans segment), yfrozen.trans (same'.trans frozen)⟩
    case active =>
      have held : x.context = some (c.onFlags g) := by rw [context, hc, Option.map_some]
      have moved : x.moved (s.recipeOf p) s.heat.state s.clock =
          ((x.moveProfile r s.clock close).raiseSegment).withSetpoints (some r) s.heat.state := by
        rw [recipe]
        exact Press.moved_of_active s.heat.state s.clock (by rw [state]; exact closed) held time
      have ends' : C length = segmentEnd r (profileLength r) := by rw [hl]; exact ends.eq (profileLength_le r)
      have segment' : y.segment = (x.moveProfile r s.clock close).segment := by rw [ysegment, moved]; rfl
      have frozen' : y.frozen = (x.moveProfile r s.clock close).frozen := by rw [yfrozen, moved]; rfl
      subst hl he
      refine ⟨fun free => ?_, ?_⟩
      · obtain ⟨at_, stops⟩ := Press.moveProfile_of_free (r := r) (now := s.clock) (close := close) (frozen.trans free)
        rw [segment', frozen', at_, ends']
        refine ⟨segmentAt_of_no_segment r, fun running => ?_, fun ended timed => segmentAt_of_ge r timed ended, stops⟩
        obtain ⟨low, high, inside, before⟩ := segmentAt_of_lt r running
        have most := high.trans (profileLength_le r)
        refine ⟨low, high, by rw [ends.eq most]; exact inside, fun k first early => ?_⟩
        rw [ends.eq (early.le.trans most)]
        exact before k first early
      · have raised : (x.moved (s.recipeOf p) s.heat.state s.clock).context.map (fun c => c.panel.segmentReached) =
            some (max c.panel.segmentReached y.segment) := by
          rw [moved, segment']
          have same : (x.moveProfile r s.clock close).context = some (c.onFlags g) := by
            rw [← held]
            unfold Press.moveProfile
            split <;> rfl
          simp only [Press.withSetpoints_context, Press.raiseSegment, Press.onContext, same, Option.map_some]
          rfl
        rw [raised] at yreached
        obtain ⟨d, hd, reached⟩ := Option.map_eq_some_iff.1 yreached
        exact ⟨d, hd, reached⟩

end Sys2Proof.Machine

/-! SUPPORT. The stages of a cure step, against their definitions (5.2..5.6, R85..R93), and the deviation range (R80). -/

namespace Sys2Proof.Machine

/-! ## The counted zones -/

section Counted

variable (x : Press)

theorem Press.countedZones_nodup : x.countedZones.Nodup := (List.nodup_finRange 8).filter _

theorem Press.mem_countedZones (z : ZoneId) : z ∈ x.countedZones ↔ Counted x z := by
  have active : x.isActive z = true ↔ ∃ u, x.setup = some u ∧ u.zones.getLsbD z.val = true := by
    unfold Press.isActive
    rcases x.setup with _ | u <;> simp
  simp [Press.countedZones, allZones, Counted, active, and_assoc]

theorem Press.countedZones_sorted : x.countedZones.Pairwise (· < ·) := (List.pairwise_lt_finRange 8).filter _

/-- What counts depends on the setup and the zones alone. -/
theorem Press.countedZones_congr {x y : Press} (setup : y.setup = x.setup) (zones : y.zones = x.zones) :
    y.countedZones = x.countedZones := by
  unfold Press.countedZones Press.isActive
  rw [setup, zones]

/-- The coldest zone so far, and a further one. -/
def colder (x : Press) (best : Option ZoneId) (z : ZoneId) : Option ZoneId :=
  match best with
  | none => some z
  | some b => if x.zones[z].lastGood < x.zones[b].lastGood then some z else some b

/-- The coldest zone of a list in ascending order, the lowest-numbered of those that share the least temperature (R85). -/
theorem foldl_colder {zones : List ZoneId} (sorted : zones.Pairwise (· < ·)) (b : ZoneId) (above : ∀ z ∈ zones, b < z) :
    ∃ k, zones.foldl (colder x) (some b) = some k ∧ k ∈ b :: zones ∧
      ∀ z ∈ b :: zones, x.zones[k].lastGood ≤ x.zones[z].lastGood ∧ (x.zones[z].lastGood = x.zones[k].lastGood → k ≤ z) := by
  induction zones generalizing b with
  | nil => exact ⟨b, rfl, by simp, by simp⟩
  | cons a rest ih =>
    obtain ⟨first, sorted⟩ := List.pairwise_cons.1 sorted
    have less : b < a := above a (by simp)
    by_cases cold : x.zones[a].lastGood < x.zones[b].lastGood
    · obtain ⟨k, fold, mem, least⟩ := ih sorted a first
      refine ⟨k, by rw [List.foldl_cons, colder, if_pos cold]; exact fold, by simp_all, ?_⟩
      intro z hz
      rcases List.mem_cons.1 hz with rfl | hz
      · have := (least a (by simp)).1
        exact ⟨by omega, fun same => by omega⟩
      · exact least z hz
    · obtain ⟨k, fold, mem, least⟩ := ih sorted b fun z hz => above z (by simp [hz])
      refine ⟨k, by rw [List.foldl_cons, colder, if_neg cold]; exact fold, by simp at mem ⊢; tauto, ?_⟩
      intro z hz
      rcases List.mem_cons.1 hz with rfl | hz
      · exact least _ (by simp)
      · rcases List.mem_cons.1 hz with rfl | hz
        · obtain ⟨low, tie⟩ := least b (by simp)
          exact ⟨by omega, fun same => (tie (by omega)).trans less.le⟩
        · exact least z (by simp [hz])

theorem Press.coldest_eq_none (h : x.countedZones = []) : x.coldest = none := by
  unfold Press.coldest
  rw [h]
  rfl

/-- The coldest counted zone (R85). -/
theorem Press.coldest_spec (h : x.countedZones ≠ []) : ∃ k, x.coldest = some k ∧ k ∈ x.countedZones ∧
    ∀ z ∈ x.countedZones, x.zones[k].lastGood ≤ x.zones[z].lastGood ∧
      (x.zones[z].lastGood = x.zones[k].lastGood → k ≤ z) := by
  have sorted := x.countedZones_sorted
  have fold : x.coldest = x.countedZones.foldl (colder x) none := rfl
  rw [fold]
  cases hl : x.countedZones with
  | nil => exact absurd hl h
  | cons b rest =>
    rw [hl] at sorted
    obtain ⟨above, sorted⟩ := List.pairwise_cons.1 sorted
    exact foldl_colder x sorted b above

end Counted

/-! ## The stages -/

section Stages

/-- The mantissas of the table are the integers nearest to 2^(f/64) × 32768 (R91). -/
theorem mantissaTable_nearest : ∀ f : Fin 64, IsMantissa f.val (mantissaTable.getD f.val 0) := by
  unfold IsMantissa
  decide

theorem roundQuotient_nonneg {mode : RoundingMode} {num : Int} {den : Nat} (h : 0 ≤ num) : 0 ≤ roundQuotient mode num den := by
  have q : 0 ≤ num / (den : Int) := Int.ediv_nonneg h (by omega)
  unfold roundQuotient
  dsimp only
  split
  · split_ifs <;> omega
  · split_ifs <;> omega
  · exact q
  · split_ifs <;> omega

/-- Stage 4 (R92, R93). -/
theorem increment_isIncrement (mode : RoundingMode) (mantissa : Nat) (whole : Int) :
    IsIncrement mode whole mantissa (increment mode mantissa whole) := by
  unfold IsIncrement increment
  refine ⟨fun h => if_pos h, fun h => ?_⟩
  rw [if_neg (Int.not_le.2 h)]
  exact Int.toNat_of_nonneg (roundQuotient_nonneg (Int.natCast_nonneg mantissa))

variable {cell : RoundingMode} {r : Recipe} {x : Press} {k : ZoneId}

theorem effectiveMode_rows : (r.rounding = 0 → effectiveMode cell r = .nearestEven) ∧
    (r.rounding = 1 → effectiveMode cell r = .towardZero) ∧ (r.rounding = 2 → effectiveMode cell r = .down) ∧
    (r.rounding = 3 → effectiveMode cell r = .up) ∧ (4 ≤ r.rounding → effectiveMode cell r = cell) := by
  unfold effectiveMode
  refine ⟨fun h => by rw [h]; rfl, fun h => by rw [h]; rfl, fun h => by rw [h]; rfl, fun h => by rw [h]; rfl, fun h => ?_⟩
  obtain ⟨n, code⟩ := Nat.exists_eq_add_of_le' h
  have cellDefault : roundingOfCode r.rounding = Option.none := by
    rw [code]
    rfl
  rw [cellDefault]
  rfl

/-- The stages 0 to 3 for the coldest of the counted zones (R85, R88..R91). -/
theorem stepRate_isStepRate {zones : List ZoneId} (mem : k ∈ zones) (least : ∀ z ∈ zones,
    x.zones[k].lastGood ≤ x.zones[z].lastGood ∧ (x.zones[z].lastGood = x.zones[k].lastGood → k ≤ z)) :
    IsStepRate cell r x zones (stepRate cell r x k) := by
  obtain ⟨even, zero, down, up, default⟩ := effectiveMode_rows (cell := cell) (r := r)
  unfold IsStepRate stepRate
  dsimp only
  generalize he : clampExponent (rawExponent (effectiveMode cell r) r (x.zones[k].lastGood - r.tRef)) = e
  have low : 0 ≤ e % 64 := Int.emod_nonneg e (by decide)
  have high : e % 64 < 64 := Int.emod_lt_of_pos e (by decide)
  refine ⟨mem, rfl, least, rfl, even, zero, down, up, default, rfl, ?_, ?_, ?_, ?_⟩
  · exact he.symm
  · omega
  · omega
  · exact mantissaTable_nearest ⟨(e % 64).toNat, by omega⟩

end Stages

/-! ## The deviation range (R80) -/

section Deviations

theorem leastOf_spec (d : Int) (rest : List Int) :
    leastOf d rest ∈ d :: rest ∧ ∀ e ∈ d :: rest, leastOf d rest ≤ e := by
  unfold leastOf
  induction rest generalizing d with
  | nil => simp
  | cons a rest ih =>
    obtain ⟨mem, least⟩ := ih (min d a)
    rw [List.foldl_cons]
    refine ⟨?_, fun e he => ?_⟩
    · rcases List.mem_cons.1 mem with same | mem
      · rw [same]
        rcases min_choice d a with e | e <;> simp [e]
      · simp [mem]
    · have first := least (min d a) (by simp)
      rcases List.mem_cons.1 he with rfl | he
      · exact first.trans (min_le_left _ _)
      · rcases List.mem_cons.1 he with rfl | he
        · exact first.trans (min_le_right _ _)
        · exact least e (by simp [he])

theorem greatestOf_spec (d : Int) (rest : List Int) :
    greatestOf d rest ∈ d :: rest ∧ ∀ e ∈ d :: rest, e ≤ greatestOf d rest := by
  unfold greatestOf
  induction rest generalizing d with
  | nil => simp
  | cons a rest ih =>
    obtain ⟨mem, greatest⟩ := ih (max d a)
    rw [List.foldl_cons]
    refine ⟨?_, fun e he => ?_⟩
    · rcases List.mem_cons.1 mem with same | mem
      · rw [same]
        rcases max_choice d a with e | e <;> simp [e]
      · simp [mem]
    · have first := greatest (max d a) (by simp)
      rcases List.mem_cons.1 he with rfl | he
      · exact (le_max_left _ _).trans first
      · rcases List.mem_cons.1 he with rfl | he
        · exact (le_max_right _ _).trans first
        · exact greatest e (by simp [he])

theorem Press.deviations_congr {x y : Press} (setup : y.setup = x.setup) (zones : y.zones = x.zones)
    (setpoints : y.setpoints = x.setpoints) : y.deviations = x.deviations := by
  unfold Press.deviations
  rw [Press.countedZones_congr setup zones]
  unfold Press.deviation
  rw [zones, setpoints]

theorem Press.deviations_eq (x : Press) : x.deviations = x.countedZones.map (deviationOf x) := rfl

end Deviations

end Sys2Proof.Machine

/-! SUPPORT. The cure step at the press scan that follows zone 7's sample (chapter 5, R80, R83..R100). -/

namespace Sys2Proof.Machine

section Contexts

/-- A context with the segment reached and the two flags that the parts of a scan before the cure step set (R46, R72, R77). -/
def CycleContext.scanned (reached : Nat) (excursion fault : Bool) (c : CycleContext) : CycleContext :=
  { c with panel := { c.panel with
      segmentReached := reached, flags := { c.panel.flags with tempExcursion := excursion, sensorFault := fault } } }

variable (x : Press) {c : CycleContext}

theorem Press.sampledContext_fields (z : ZoneId) (v : ZoneSample) (hc : x.context = some c) : ∃ fault,
    x.sampledContext z v = some (c.scanned c.panel.segmentReached c.panel.flags.tempExcursion fault) := by
  unfold Press.sampledContext
  rw [hc]
  split
  · exact ⟨true, rfl⟩
  · exact ⟨c.panel.flags.sensorFault, rfl⟩

variable {x} {reached : Nat} {excursion fault : Bool}

theorem Press.moved_context (recipe : Option Recipe) (heat : HeatState) (now : Clock)
    (hc : x.context = some (c.scanned reached excursion fault)) :
    ∃ reached, (x.moved recipe heat now).context = some (c.scanned reached excursion fault) := by
  have raised {y : Press} (hy : y.context = x.context) :
      y.raiseSegment.context = some (c.scanned (max reached y.segment) excursion fault) := by
    rw [Press.raiseSegment, Press.onContext, hy, hc]
    rfl
  rw [Press.moved, Press.withSetpoints_context]
  unfold Press.profiled
  split
  · split
    · refine ⟨_, raised ?_⟩
      unfold Press.moveProfile
      split <;> rfl
    · exact ⟨_, hc⟩
  · exact ⟨_, hc⟩

theorem Press.judged_context (recipe : Option Recipe) (hc : x.context = some (c.scanned reached excursion fault)) :
    ∃ excursion, (x.judged recipe).context = some (c.scanned reached excursion fault) := by
  obtain ⟨_, _, _, _, marks, e⟩ := x.judged_spec recipe
  rw [e]
  dsimp only
  rw [hc]
  cases marks
  · exact ⟨_, rfl⟩
  · exact ⟨true, rfl⟩

end Contexts

section Scanned

variable (s : State) (p : PressId) (v : ZoneSample)

/-- The press as zone 7's sample and the parts of the scan before the cure step leave it (R43). -/
def State.beforeCure : Press :=
  ((s.sampledPress p 7 v).readied (s.recipeOf p) s.heat.state s.clock).tracked

theorem State.beforeCure_state : (s.beforeCure p v).state = (s.press p).state := by
  obtain ⟨_, -, state, -, -⟩ := State.sampledPress_spec (s := s) (p := p) (z := 7) (v := v)
  exact ((Press.tracked_keeps _).state.trans (Press.readied_keeps _ _ _ _).state).trans state

/-- The scan of a press in CURING or DEMOULD_DUE ends in its cure step (R43, R83). -/
theorem State.sampleZone_of_closed (closed : (s.press p).state = .curing ∨ (s.press p).state = .demouldDue) :
    s.sampleZone p 7 v =
      (s.modPress p fun _ => (s.beforeCure p v).cured s.cell.rounding (s.recipeOf p) s.clock).settle := by
  obtain ⟨_, -, state, -, -⟩ := State.sampledPress_spec (s := s) (p := p) (z := 7) (v := v)
  have at_ : (s.sampled p 7 v).press p = s.sampledPress p 7 v := State.seat_press_self ..
  rw [State.sampleZone_eq, if_pos rfl, State.pressScan_eq at_ rfl, s.sampled_recipeOf]
  dsimp only
  rw [if_pos ((Press.isClosed_iff _).2 (by rw [state]; exact closed)), State.modPress_eq_seat]
  unfold State.sampled State.beforeCure Press.readied
  rw [State.seat_seat]
  rfl

/-- The context before the cure step: the one the press held, but for two flags, the segment reached and the deviation
range (R46, R72, R77, R80). -/
theorem State.beforeCure_context {c : CycleContext} (closed : (s.press p).state = .curing ∨ (s.press p).state = .demouldDue)
    (hc : (s.press p).context = some c) : ∃ reached excursion fault, (s.beforeCure p v).context =
      some ((c.scanned reached excursion fault).onPanel (PanelRecord.track (s.beforeCure p v).deviations)) := by
  obtain ⟨fault, sampled⟩ := (s.press p).sampledContext_fields 7 (deliveredSample v) hc
  have sampledContext : (s.sampledPress p 7 v).context = (s.press p).sampledContext 7 (deliveredSample v) := by
    rw [State.sampledPress, Press.zoneSample_fields]
    rfl
  obtain ⟨reached, moved⟩ := Press.moved_context (s.recipeOf p) s.heat.state s.clock (sampledContext.trans sampled)
  obtain ⟨excursion, judged⟩ := Press.judged_context (s.recipeOf p) moved
  refine ⟨reached, excursion, fault, ?_⟩
  have closed' : ((s.sampledPress p 7 v).readied (s.recipeOf p) s.heat.state s.clock).state.isClosed = true := by
    obtain ⟨_, -, state, -, -⟩ := State.sampledPress_spec (s := s) (p := p) (z := 7) (v := v)
    rw [(Press.readied_keeps _ _ _ _).state, state]
    exact (Press.isClosed_iff _).2 closed
  have devs : (s.beforeCure p v).deviations =
      ((s.sampledPress p 7 v).readied (s.recipeOf p) s.heat.state s.clock).deviations :=
    Press.deviations_congr (Press.tracked_keeps _).setup (Press.tracked_shows _).zones (Press.tracked_keepsProfile _).setpoints
  rw [devs, State.beforeCure, Press.tracked, if_pos closed', Press.onContext, Press.readied, judged]
  rfl

end Scanned

/-! ## The cure step's press -/

section CureStep

variable (cell : RoundingMode) (r : Recipe) (now : Clock) (c : CycleContext) (x : Press)

theorem Press.cureStep_context : (x.cureStep cell r now c).context = some (x.curedContext cell r now c) := by
  rw [Press.cureStep_eq]
  dsimp only
  split <;> rfl

theorem Press.cureStep_lastStep : (x.cureStep cell r now c).lastStep = some (x.cureRecord cell r now c) := by
  rw [Press.cureStep_eq]
  dsimp only
  split <;> rfl

/-- A decision that is due moves the press to DEMOULD_DUE (R13). -/
theorem Press.cureStep_state : (x.cureStep cell r now c).state =
    if x.cureDecision cell r now c = .due ∨ x.cureDecision cell r now c = .dueAtMaxClose then .demouldDue else x.state := by
  rw [Press.cureStep_eq]
  dsimp only
  cases x.cureDecision cell r now c <;> rfl

theorem Press.cureStep_keeps : (x.cureStep cell r now c).zones = x.zones ∧ (x.cureStep cell r now c).setup = x.setup ∧
    (x.cureStep cell r now c).setpoints = x.setpoints := by
  rw [Press.cureStep_eq]
  dsimp only
  split <;> exact ⟨rfl, rfl, rfl⟩

/-- The decision of a step in DEMOULD_DUE is none, and in CURING that of R97. -/
theorem Press.cureDecision_rows {close : Clock} {span : Nat} (time : c.panel.closeTime = some close)
    (elapsed : span = (now - close).toNat) :
    (x.state ≠ .curing → x.cureDecision cell r now c = .noDecision) ∧
    (x.state = .curing → r.maxClose * 1000 ≤ span → x.cureDecision cell r now c = .dueAtMaxClose) ∧
    (x.state = .curing → span < r.maxClose * 1000 → targetCu r ≤ x.curedAccumulator cell r c → r.minClose * 1000 ≤ span →
      x.cureDecision cell r now c = .due) ∧
    (x.state = .curing → span < r.maxClose * 1000 →
      (x.curedAccumulator cell r c < targetCu r ∨ span < r.minClose * 1000) → x.cureDecision cell r now c = .notDue) := by
  have same : spanMs now ((x.accumulated cell r c).panel.closeTime.getD 0) = span := by
    have kept : (x.accumulated cell r c).panel.closeTime = c.panel.closeTime := rfl
    rw [kept, time, elapsed]
    rfl
  have acc : (x.accumulated cell r c).accumulator.getD 0 = x.curedAccumulator cell r c := rfl
  unfold Press.cureDecision demouldDecision
  rw [same, acc]
  refine ⟨fun other => if_neg other, fun curing late => ?_, fun curing early target min => ?_, fun curing early short => ?_⟩
  · rw [if_pos curing, if_pos late]
  · rw [if_pos curing, if_neg (by omega), if_pos ⟨target, min⟩]
  · rw [if_pos curing, if_neg (by omega), if_neg (by omega)]

/-- At max_close the decision is due at max_close, and at no other time (R97). -/
theorem Press.dueAtMaxClose_iff {close : Clock} {span : Nat} (time : c.panel.closeTime = some close)
    (elapsed : span = (now - close).toNat) :
    x.cureDecision cell r now c = .dueAtMaxClose ↔ x.state = .curing ∧ r.maxClose * 1000 ≤ span := by
  obtain ⟨other, late, due, notDue⟩ := x.cureDecision_rows cell r now c time elapsed
  refine ⟨fun decision => ?_, fun h => late h.1 h.2⟩
  have curing : x.state = .curing := Press.curing_of_cureDecision (by rw [decision]; nofun)
  refine ⟨curing, ?_⟩
  by_contra early
  by_cases target : targetCu r ≤ x.curedAccumulator cell r c ∧ r.minClose * 1000 ≤ span
  · exact nomatch (due curing (by omega) target.1 target.2).symm.trans decision
  · exact nomatch (notDue curing (by omega) (by omega)).symm.trans decision

/-- The rate of a step with a counted zone, and of one without (R85, R86). -/
theorem Press.cureRate_spec : (x.countedZones = [] → x.cureRate cell r = none) ∧
    (x.countedZones ≠ [] → ∃ k, x.cureRate cell r = some k ∧ IsStepRate cell r x x.countedZones k ∧
      IsIncrement k.mode k.whole k.mantissa (StepRate.incrementOf (x.cureRate cell r))) := by
  unfold Press.cureRate
  refine ⟨fun none => by rw [x.coldest_eq_none none]; rfl, fun some => ?_⟩
  obtain ⟨k, coldest, mem, least⟩ := x.coldest_spec some
  rw [coldest]
  exact ⟨_, rfl, stepRate_isStepRate mem least, increment_isIncrement _ _ _⟩

theorem IsStepRate.congr {x y : Press} {zones : List ZoneId} {q : StepRate} (same : y.zones = x.zones)
    (h : IsStepRate cell r x zones q) : IsStepRate cell r y zones q := by
  unfold IsStepRate at h ⊢
  rwa [same]

end CureStep

theorem PanelRecord.track_spec (l : List Int) (r : PanelRecord) : ∃ low high, r.track l = { r with devMin := low, devMax := high } := by
  cases l <;> exact ⟨_, _, rfl⟩

/-- The range of a record after a scan with a counted zone (R80). -/
theorem PanelRecord.track_range {l : List Int} (r : PanelRecord) (h : l ≠ []) : ∃ least ∈ l, ∃ greatest ∈ l,
    (∀ d ∈ l, least ≤ d ∧ d ≤ greatest) ∧
      (r.track l).devMin = some (match r.devMin with | some m => min m least | none => least) ∧
      (r.track l).devMax = some (match r.devMax with | some m => max m greatest | none => greatest) := by
  cases l with
  | nil => exact absurd rfl h
  | cons d rest =>
    obtain ⟨low, least⟩ := leastOf_spec d rest
    obtain ⟨high, greatest⟩ := greatestOf_spec d rest
    exact ⟨_, low, _, high, fun e he => ⟨least e he, greatest e he⟩, rfl, rfl⟩

/-- Settles O39: the scan ends in the cure step, whose stages are those of chapter 5. -/
theorem cureStepsAtPressScans : Obligations.CureStepsAtPressScans := by
  unfold Obligations.CureStepsAtPressScans
  rintro s p x c r v close span rfl hc recipe closed time elapsed
  obtain ⟨reached, excursion, fault, context⟩ := s.beforeCure_context p v closed hc
  have state := s.beforeCure_state p v
  have event := s.sampleZone_of_closed p v closed
  generalize hx : s.beforeCure p v = x at context state event
  have xclosed : x.state.isClosed = true := (Press.isClosed_iff x).2 (by rw [state]; exact closed)
  generalize hd : (c.scanned reached excursion fault).onPanel (PanelRecord.track x.deviations) = d at context
  have cured : x.cured s.cell.rounding (s.recipeOf p) s.clock = x.cureStep s.cell.rounding r s.clock d := by
    unfold Press.cured
    rw [if_pos xclosed, context, recipe]
  rw [cured] at event
  have press : (s.sampleZone p 7 v).press p = (x.cureStep s.cell.rounding r s.clock d).drive := by
    rw [event, State.settle_press, State.modPress_press_self]
  obtain ⟨zones, setup, setpoints⟩ := x.cureStep_keeps s.cell.rounding r s.clock d
  have ystate := x.cureStep_state s.cell.rounding r s.clock d
  have ycontext := x.cureStep_context s.cell.rounding r s.clock d
  have ylast := x.cureStep_lastStep s.cell.rounding r s.clock d
  generalize x.cureStep s.cell.rounding r s.clock d = w at press zones setup setpoints ystate ycontext ylast
  have counted : w.drive.countedZones = x.countedZones := Press.countedZones_congr setup zones
  have dtime : d.panel.closeTime = some close := by
    obtain ⟨_, _, e⟩ := PanelRecord.track_spec x.deviations (c.scanned reached excursion fault).panel
    rw [← hd, CycleContext.onPanel, e]
    exact time
  obtain ⟨noRate, hasRate⟩ := x.cureRate_spec s.cell.rounding r
  obtain ⟨noDecision, late, due, notDue⟩ := x.cureDecision_rows s.cell.rounding r s.clock d dtime elapsed
  have atMax := x.dueAtMaxClose_iff s.cell.rounding r s.clock d dtime elapsed
  obtain ⟨low, high, track⟩ := PanelRecord.track_spec x.deviations (c.scanned reached excursion fault).panel
  have stalled : (x.cureRate s.cell.rounding r).isNone = decide (x.countedZones = []) := by
    by_cases empty : x.countedZones = []
    · rw [noRate empty, empty]
      rfl
    · obtain ⟨k, rate, -, -⟩ := hasRate empty
      rw [rate, decide_eq_false empty]
      rfl
  have under : decide (x.cureDecision s.cell.rounding r s.clock d = .dueAtMaxClose ∧
        x.curedAccumulator s.cell.rounding r d < targetCu r) =
      decide ((s.press p).state = .curing ∧ r.maxClose * 1000 ≤ span ∧
        x.curedAccumulator s.cell.rounding r d < r.cureTarget * 8192) := by
    refine decide_eq_decide.2 ?_
    rw [atMax, state, and_assoc]
    exact Iff.rfl
  have range : ∃ least greatest, x.countedZones ≠ [] →
      (∃ z ∈ x.countedZones, deviationOf w.drive z = least) ∧ (∃ z ∈ x.countedZones, deviationOf w.drive z = greatest) ∧
      (∀ z ∈ x.countedZones, least ≤ deviationOf w.drive z ∧ deviationOf w.drive z ≤ greatest) ∧
      d.panel.devMin = some (match c.panel.devMin with | some m => min m least | none => least) ∧
      d.panel.devMax = some (match c.panel.devMax with | some m => max m greatest | none => greatest) := by
    by_cases empty : x.countedZones = []
    · exact ⟨0, 0, fun h => absurd empty h⟩
    · have deviation (z : ZoneId) : deviationOf w.drive z = deviationOf x z := by
        have zones' : w.drive.zones = x.zones := zones
        have setpoints' : w.drive.setpoints = x.setpoints := setpoints
        rw [deviationOf, deviationOf, zones', setpoints']
      have some' : x.deviations ≠ [] := by
        rw [Press.deviations_eq]
        simpa using empty
      obtain ⟨least, low', greatest, high', between, devMin, devMax⟩ :=
        PanelRecord.track_range (c.scanned reached excursion fault).panel some'
      rw [Press.deviations_eq] at low' high' between
      refine ⟨least, greatest, fun _ => ⟨?_, ?_, fun z hz => ?_, ?_, ?_⟩⟩
      · obtain ⟨z, hz, e⟩ := List.mem_map.1 low'
        exact ⟨z, hz, by rw [deviation, e]⟩
      · obtain ⟨z, hz, e⟩ := List.mem_map.1 high'
        exact ⟨z, hz, by rw [deviation, e]⟩
      · rw [deviation]
        exact between _ (List.mem_map_of_mem hz)
      · rw [← hd]
        exact devMin
      · rw [← hd]
        exact devMax
  obtain ⟨least, greatest, range⟩ := range
  have fields := x.curedContext_fields s.cell.rounding r s.clock d
  have permit (h : w.state = .demouldDue) : w.drive.openPermit = true := by
    rw [Press.drive, h]
    rfl
  refine ⟨s.sampleZone p 7 v, w.drive, x.curedContext s.cell.rounding r s.clock d,
    x.cureRecord s.cell.rounding r s.clock d, x.countedZones, x.curedAccumulator s.cell.rounding r d, least, greatest,
    exec_zoneSample s p 7 v, press, ycontext, ylast, ?_, s.sampleZone_onlyPress p 7 v, s.sampleZone_handsOn p 7 v,
    x.countedZones_nodup, fun z => ?_, rfl, ?number, rfl, fun empty => ?_, fun full => ?_, ?acc, ?context, ?panel, fun empty => ?_,
    fun full => ?range, fun demould => ?_, fun curing h => ?_, fun curing h target min => ?_, fun curing h short => ?_⟩
  · rw [event]
    exact ((OnlyChanges.modPress s p _).mono (by simp)).settle (by simp)
  · rw [← counted]
    exact Press.mem_countedZones _ z
  case number =>
    have number : (x.curedContext s.cell.rounding r s.clock d).stepCount = some (min 65535 (d.stepCount.getD 0 + 1)) := by
      rw [fields]
    have count : d.stepCount = c.stepCount := by rw [← hd]; rfl
    rw [Press.cureRecord, number, count]
    rfl
  case acc =>
    have accumulator : d.accumulator = c.accumulator := by rw [← hd]; rfl
    rw [Press.curedAccumulator, accumulator]
    rfl
  case context =>
    have number : (x.curedContext s.cell.rounding r s.clock d).stepCount =
        some (x.cureRecord s.cell.rounding r s.clock d).number := by
      rw [Press.cureRecord, fields]
      rfl
    rw [← number, fields]
  case panel =>
    rw [fields, stalled, under, ← hd, CycleContext.onPanel, track]
    rfl
  case range =>
    obtain ⟨a, b, between, devMin, devMax⟩ := range full
    rw [fields]
    exact ⟨a, b, between, devMin, devMax⟩
  · rw [Press.cureRecord, noRate empty]
    exact ⟨rfl, rfl⟩
  · obtain ⟨k, rate, stage, inc⟩ := hasRate full
    exact ⟨k, rate, IsStepRate.congr _ _ zones stage, inc⟩
  · have none : x.deviations = [] := by rw [Press.deviations_eq, empty, List.map_nil]
    rw [fields, ← hd, none]
    exact ⟨rfl, rfl⟩
  · have decision := noDecision (by rw [state, demould]; nofun)
    rw [decision, state, demould] at ystate
    exact ⟨decision, ystate⟩
  · have decision := late (state.trans curing) h
    rw [decision] at ystate
    exact ⟨decision, ystate, permit ystate⟩
  · have decision := due (state.trans curing) h target min
    rw [decision] at ystate
    exact ⟨decision, ystate, permit ystate⟩
  · have decision := notDue (state.trans curing) h short
    rw [decision, state, curing] at ystate
    exact ⟨decision, ystate⟩

end Sys2Proof.Machine

/-! SUPPORT. Readiness, its flags and the place of a press at the press scan that follows zone 7's sample (4.4, 4.5, R73..R78). -/

namespace Sys2Proof.Machine

/-! ## The bands -/

section Bands

variable (x : Press)

theorem Press.deviations_eq_nil : x.deviations = [] ↔ ∀ z, ¬Counted x z := by
  rw [Press.deviations_eq, List.map_eq_nil_iff, List.eq_nil_iff_forall_not_mem]
  exact forall_congr' fun z => not_congr (x.mem_countedZones z)

theorem Press.withinBand_iff (band : Nat) : WithinBand x band ↔ x.deviations ≠ [] ∧ ∀ d ∈ x.deviations, d.natAbs ≤ band := by
  have some' : (∃ z, Counted x z) ↔ x.deviations ≠ [] := by
    rw [Ne, x.deviations_eq_nil]
    exact not_forall_not.symm
  rw [WithinBand, some', Press.deviations_eq, List.forall_mem_map]
  exact and_congr_right fun _ => forall_congr' fun z => by rw [x.mem_countedZones]

theorem Press.qualifies_iff (r : Recipe) : x.qualifies r = true ↔ WithinBand x r.readyBand := by
  rw [x.withinBand_iff]
  simp [Press.qualifies]

theorem Press.drops_iff (r : Recipe) : x.drops r = true ↔ ¬WithinBand x r.dropBand := by
  rw [x.withinBand_iff, not_and_or, not_not]
  simp [Press.drops]

theorem WithinBand.congr {x y : Press} (setup : y.setup = x.setup) (zones : y.zones = x.zones)
    (setpoints : y.setpoints = x.setpoints) (band : Nat) : WithinBand y band ↔ WithinBand x band := by
  rw [y.withinBand_iff, x.withinBand_iff, Press.deviations_congr setup zones setpoints]

end Bands

/-! ## A press judged -/

section Judged

variable (r : Recipe) (x : Press)

/-- A scan that counts, and the end of the run that it makes (R74, R75). -/
theorem Press.judged_of_turns (counts : x.counts r = true) (ends : runGoal r x.ready ≤ x.run + 1) :
    x.judged (some r) = x.turned := by
  rw [Press.judged, if_pos counts, if_pos ends]

theorem Press.judged_of_counts (counts : x.counts r = true) (runs : x.run + 1 < runGoal r x.ready) :
    x.judged (some r) = { x with run := x.run + 1 } := by
  rw [Press.judged, if_pos counts, if_neg (Nat.not_le.2 runs)]

theorem Press.judged_of_not_counts (counts : x.counts r ≠ true) : x.judged (some r) = { x with run := 0 } := by
  rw [Press.judged, if_neg counts]

theorem Press.counts_of_not_ready (h : x.ready = false) : x.counts r = true ↔ WithinBand x r.readyBand := by
  rw [Press.counts, h, if_neg Bool.false_ne_true, x.qualifies_iff]

theorem Press.counts_of_ready (h : x.ready = true) : x.counts r = true ↔ ¬WithinBand x r.dropBand := by
  rw [Press.counts, h, if_pos rfl, x.drops_iff]

/-- Readiness and its run by the table of R74 and R75. -/
theorem Press.judged_rows :
    (x.ready = false → WithinBand x r.readyBand → x.run + 1 < r.readyQualify * 4 →
      (x.judged (some r)).ready = false ∧ (x.judged (some r)).run = x.run + 1) ∧
    (x.ready = false → WithinBand x r.readyBand → r.readyQualify * 4 ≤ x.run + 1 →
      (x.judged (some r)).ready = true ∧ (x.judged (some r)).run = 0) ∧
    (x.ready = false → ¬WithinBand x r.readyBand → (x.judged (some r)).ready = false ∧ (x.judged (some r)).run = 0) ∧
    (x.ready = true → WithinBand x r.dropBand → (x.judged (some r)).ready = true ∧ (x.judged (some r)).run = 0) ∧
    (x.ready = true → ¬WithinBand x r.dropBand → x.run + 1 < r.dropQualify * 4 →
      (x.judged (some r)).ready = true ∧ (x.judged (some r)).run = x.run + 1) ∧
    (x.ready = true → ¬WithinBand x r.dropBand → r.dropQualify * 4 ≤ x.run + 1 →
      (x.judged (some r)).ready = false ∧ (x.judged (some r)).run = 0) := by
  have goal (h : x.ready = false) : runGoal r x.ready = r.readyQualify * 4 := by rw [h]; rfl
  have goal' (h : x.ready = true) : runGoal r x.ready = r.dropQualify * 4 := by rw [h]; rfl
  refine ⟨fun h band run => ?_, fun h band run => ?_, fun h band => ?_, fun h band => ?_, fun h band run => ?_,
    fun h band run => ?_⟩
  · rw [x.judged_of_counts r ((x.counts_of_not_ready r h).2 band) (by rw [goal h]; exact run)]
    exact ⟨h, rfl⟩
  · rw [x.judged_of_turns r ((x.counts_of_not_ready r h).2 band) (by rw [goal h]; exact run), Press.turned_eq, h]
    exact ⟨rfl, rfl⟩
  · rw [x.judged_of_not_counts r (mt (x.counts_of_not_ready r h).1 band)]
    exact ⟨h, rfl⟩
  · rw [x.judged_of_not_counts r fun counts => (x.counts_of_ready r h).1 counts band]
    exact ⟨h, rfl⟩
  · rw [x.judged_of_counts r ((x.counts_of_ready r h).2 band) (by rw [goal' h]; exact run)]
    exact ⟨h, rfl⟩
  · rw [x.judged_of_turns r ((x.counts_of_ready r h).2 band) (by rw [goal' h]; exact run), Press.turned_eq, h]
    exact ⟨rfl, rfl⟩

/-- What a judgement marks: a rise READY_ROSE, a fall READY_FELL and in a marked state TEMP_EXCURSION (R74, R77). -/
theorem Press.judged_marks : (x.judged (some r)).changes.readyRose = (x.changes.readyRose ||
      (!x.ready && (x.judged (some r)).ready)) ∧
    (x.judged (some r)).changes.readyFell = (x.changes.readyFell || (x.ready && !(x.judged (some r)).ready)) ∧
    (x.judged (some r)).context = (if x.ready && !(x.judged (some r)).ready && x.state.isMarked then
      x.context.map (CycleContext.onFlags fun f => { f with tempExcursion := true }) else x.context) ∧
    (x.turns (some r) = true ↔ (x.judged (some r)).ready ≠ x.ready) := by
  have still (run : Nat) (same : x.judged (some r) = { x with run := run }) (turns : x.turns (some r) ≠ true) :
      (x.judged (some r)).changes.readyRose = (x.changes.readyRose || (!x.ready && (x.judged (some r)).ready)) ∧
      (x.judged (some r)).changes.readyFell = (x.changes.readyFell || (x.ready && !(x.judged (some r)).ready)) ∧
      (x.judged (some r)).context = (if x.ready && !(x.judged (some r)).ready && x.state.isMarked then
        x.context.map (CycleContext.onFlags fun f => { f with tempExcursion := true }) else x.context) ∧
      (x.turns (some r) = true ↔ (x.judged (some r)).ready ≠ x.ready) := by
    rw [same]
    simp [turns]
  by_cases counts : x.counts r = true
  · by_cases ends : runGoal r x.ready ≤ x.run + 1
    · have turns : x.turns (some r) = true := Press.turns_iff.2 ⟨counts, ends⟩
      rw [x.judged_of_turns r counts ends, Press.turned_eq]
      simp only [turns, true_iff]
      cases x.ready <;> simp
    · exact still _ (x.judged_of_counts r counts (Nat.not_le.1 ends)) fun turns => ends (Press.turns_iff.1 turns).2
  · exact still 0 (x.judged_of_not_counts r counts) fun turns => counts (Press.turns_iff.1 turns).1

end Judged

/-! ## What the parts after readiness leave of it -/

/-- The fields that no part of the scan moves (R43). -/
structure Press.ScanFrame (x y : Press) : Prop where
  setup : y.setup = x.setup
  closed : y.closed = x.closed
  contact : y.contact = x.contact
  partClear : y.partClear = x.partClear
  captures : y.captures = x.captures
  stroke : y.stroke = x.stroke
  windowStart : y.windowStart = x.windowStart
  unexpectedClose : y.changes.unexpectedClose = x.changes.unexpectedClose

theorem Press.ScanFrame.trans {x y z : Press} (h : x.ScanFrame y) (k : y.ScanFrame z) : x.ScanFrame z :=
  ⟨k.setup.trans h.setup, k.closed.trans h.closed, k.contact.trans h.contact, k.partClear.trans h.partClear,
    k.captures.trans h.captures, k.stroke.trans h.stroke, k.windowStart.trans h.windowStart,
    k.unexpectedClose.trans h.unexpectedClose⟩

theorem Press.ScanKeeps.frame {x y : Press} (h : x.ScanKeeps y) : x.ScanFrame y :=
  ⟨h.setup, h.closed, h.contact, h.partClear, h.captures, h.stroke, h.windowStart, h.unexpectedClose⟩

theorem Press.ScanFrame.eq {x y : Press} (h : x.ScanFrame y) : y = { x with
    state := y.state, forced := y.forced, openPermit := y.openPermit, ejector := y.ejector
    zones := y.zones, setpoints := y.setpoints, segment := y.segment, frozen := y.frozen, ready := y.ready
    run := y.run, context := y.context, lastStep := y.lastStep
    changes := { x.changes with
      readyRose := y.changes.readyRose, readyFell := y.changes.readyFell
      zoneFaultChange := y.changes.zoneFaultChange } } := by
  obtain ⟨setup, closed, contact, partClear, captures, stroke, windowStart, unexpectedClose⟩ := h
  rw [← setup, ← closed, ← contact, ← partClear, ← captures, ← stroke, ← windowStart]
  dsimp only
  rw [← unexpectedClose]

/-- What the parts of the scan after readiness leave of it: readiness, run, change flags, zones, setpoints, and
TEMP_EXCURSION of the context. -/
structure Press.KeepsReadiness (x y : Press) : Prop where
  frame : x.ScanFrame y
  ready : y.ready = x.ready
  run : y.run = x.run
  changes : y.changes = x.changes
  zones : y.zones = x.zones
  setpoints : y.setpoints = x.setpoints
  excursion : (y.context.map fun c => c.panel.flags.tempExcursion) = x.context.map fun c => c.panel.flags.tempExcursion

theorem Press.KeepsReadiness.refl (x : Press) : x.KeepsReadiness x := by
  refine ⟨(Press.ScanKeeps.refl x).frame, rfl, rfl, rfl, rfl, rfl, rfl⟩

theorem Press.KeepsReadiness.trans {x y z : Press} (h : x.KeepsReadiness y) (k : y.KeepsReadiness z) : x.KeepsReadiness z :=
  ⟨h.frame.trans k.frame, k.ready.trans h.ready, k.run.trans h.run, k.changes.trans h.changes, k.zones.trans h.zones,
    k.setpoints.trans h.setpoints, k.excursion.trans h.excursion⟩

section Keeps

variable (recipe : Option Recipe) (now : Clock) (cell : RoundingMode) (x : Press)

theorem Press.enter_keepsReadiness (st : PressState) : x.KeepsReadiness (x.enter st).drive :=
  ⟨⟨rfl, rfl, rfl, rfl, rfl, rfl, rfl, rfl⟩, rfl, rfl, rfl, rfl, rfl, rfl⟩

theorem Press.tracked_keepsReadiness : x.KeepsReadiness x.tracked := by
  unfold Press.tracked
  split
  · refine ⟨⟨rfl, rfl, rfl, rfl, rfl, rfl, rfl, rfl⟩, rfl, rfl, rfl, rfl, rfl, ?_⟩
    rw [Press.onContext, Option.map_map]
    exact congrArg (Option.map · x.context) (funext fun c => congrArg _ (PanelRecord.track_flags _ _))
  · exact .refl x

theorem Press.cured_keepsReadiness : x.KeepsReadiness (x.cured cell recipe now).drive := by
  unfold Press.cured
  split
  · split
    next c r hc =>
      have context : (x.context.map fun c => c.panel.flags.tempExcursion) =
          (some (x.curedContext cell r now c)).map fun c => c.panel.flags.tempExcursion := by
        rw [hc, Press.curedContext_fields]
        rfl
      rw [Press.cureStep_eq]
      dsimp only
      split <;> exact ⟨⟨rfl, rfl, rfl, rfl, rfl, rfl, rfl, rfl⟩, rfl, rfl, rfl, rfl, rfl, context.symm⟩
    next => exact ⟨⟨rfl, rfl, rfl, rfl, rfl, rfl, rfl, rfl⟩, rfl, rfl, rfl, rfl, rfl, rfl⟩
  · exact ⟨⟨rfl, rfl, rfl, rfl, rfl, rfl, rfl, rfl⟩, rfl, rfl, rfl, rfl, rfl, rfl⟩

end Keeps

end Sys2Proof.Machine

/-! SUPPORT. Where the press scan leaves a press and its place in the scale queue (R77, R78). -/

namespace Sys2Proof.Machine

/-- The place that a press scan leaves: `x` the press before the sample, `b` with profile and setpoints moved, `a` with
readiness judged (R43). -/
inductive ScanPlace (s : State) (p : PressId) (x b a : Press) : Press → List PressId → Prop
  | cures (closed : x.state.isClosed = true) :
    ScanPlace s p x b a (a.tracked.cured s.cell.rounding (s.recipeOf p) s.clock).drive s.scale.queue
  | leaves (open_ : ¬x.state.isClosed = true) (leaves : b.leaves (s.recipeOf p)) :
    ScanPlace s p x b a (a.enter .heating).drive (s.scale.queue.filter (· ≠ p))
  | joins (open_ : ¬x.state.isClosed = true) (joins : a.joins s.heat.state = true) :
    ScanPlace s p x b a (a.enter .chargeWait).drive (s.scale.queue ++ [p])
  | stays (open_ : ¬x.state.isClosed = true) (stays : ¬b.leaves (s.recipeOf p)) (out : ¬a.joins s.heat.state = true) :
    ScanPlace s p x b a a s.scale.queue

section Place

variable {s : State} {p : PressId} {v : ZoneSample}

/-- The press after zone 7's sample, with its profile and setpoints moved (R43). -/
def State.movedPress (s : State) (p : PressId) (v : ZoneSample) : Press :=
  (s.sampledPress p 7 v).moved (s.recipeOf p) s.heat.state s.clock

theorem State.sampleZone_place : ∃ y queue, s.sampleZone p 7 v = (s.seat p y queue).settle ∧
    ScanPlace s p (s.press p) (s.movedPress p v) ((s.movedPress p v).judged (s.recipeOf p)) y queue := by
  obtain ⟨_, -, state, -, -⟩ := State.sampledPress_spec (s := s) (p := p) (z := 7) (v := v)
  have at_ : (s.sampled p 7 v).press p = s.sampledPress p 7 v := State.seat_press_self ..
  rw [State.sampleZone_eq, if_pos rfl, State.pressScan_eq at_ rfl, s.sampled_recipeOf, state]
  dsimp only
  have seat (y : Press) (queue : List PressId) : (s.sampled p 7 v).seat p y queue = s.seat p y queue := State.seat_seat ..
  rw [seat, seat, seat, seat]
  split_ifs with closed leaves joins
  · exact ⟨_, _, rfl, .cures closed⟩
  · exact ⟨_, _, rfl, .leaves closed leaves⟩
  · exact ⟨_, _, rfl, .joins closed joins⟩
  · exact ⟨_, _, rfl, .stays closed leaves joins⟩

theorem ScanPlace.keepsReadiness {x b a y : Press} {queue : List PressId} (h : ScanPlace s p x b a y queue) :
    a.KeepsReadiness y := by
  cases h with
  | cures => exact (Press.tracked_keepsReadiness a).trans (Press.cured_keepsReadiness _ _ _ _)
  | leaves => exact Press.enter_keepsReadiness ..
  | joins => exact Press.enter_keepsReadiness ..
  | stays => exact .refl a

/-- A press of which a sample and the profile unit have moved nothing that readiness reads, and the sensor flag of its
context (R43). -/
theorem State.movedPress_spec (law : PinLaw s) : (s.press p).ScanKeeps (s.movedPress p v) ∧
    (s.movedPress p v).ready = (s.press p).ready ∧ (s.movedPress p v).run = (s.press p).run ∧
    (s.movedPress p v).changes.readyRose = (s.press p).changes.readyRose ∧
    (s.movedPress p v).changes.readyFell = (s.press p).changes.readyFell ∧
    (s.movedPress p v).lastStep = (s.press p).lastStep := by
  have sampled : s.sampledPress p 7 v =
      (s.press p).zoneSample s.heat.state (s.recipeOf p) 7 (deliveredSample v) := by
    refine Press.drive_eq_of_same (law.drive_eq p) ?_ ?_ ?_ ?_ ?_ <;> rw [Press.zoneSample_fields]
  have keeps := (s.sampledPress p 7 v).moved_keeps (s.recipeOf p) s.heat.state s.clock
  have from_ : (s.press p).ScanKeeps (s.sampledPress p 7 v) := by
    rw [sampled, Press.zoneSample_fields]
    constructor <;> rfl
  obtain ⟨_, _, _, profiled⟩ := (s.sampledPress p 7 v).profiled_spec (s.recipeOf p) s.clock
  refine ⟨from_.trans keeps, ?_⟩
  rw [State.movedPress, Press.moved, profiled, sampled, Press.zoneSample_fields]
  exact ⟨rfl, rfl, rfl, rfl, rfl⟩

/-- A press without a context has none after the scan (R46, R72, R77). -/
theorem ScanPlace.context_none {x b a y : Press} {queue : List PressId} (h : ScanPlace s p x b a y queue)
    (none : a.context = none) : y.context = Option.none := by
  cases h with
  | cures =>
    have tracked : a.tracked.context = Option.none := by
      unfold Press.tracked
      split
      · rw [Press.onContext, none]
        rfl
      · exact none
    unfold Press.cured
    split
    · rw [tracked]
      exact tracked
    · exact tracked
  | leaves => exact none
  | joins => exact none
  | stays => exact none

theorem State.movedPress_context_none (none : (s.press p).context = none) : (s.movedPress p v).context = Option.none := by
  obtain ⟨g, context, -⟩ := State.sampledPress_spec (s := s) (p := p) (z := 7) (v := v)
  rw [none, Option.map_none] at context
  rw [State.movedPress, Press.moved, Press.withSetpoints_context]
  unfold Press.profiled
  rw [context, Option.bind_none]
  split
  · cases s.recipeOf p <;> exact context
  · exact context

theorem Press.judged_context_none {x : Press} (recipe : Option Recipe) (none : x.context = none) :
    (x.judged recipe).context = Option.none := by
  obtain ⟨_, _, _, _, marks, e⟩ := x.judged_spec recipe
  rw [e]
  dsimp only
  rw [none]
  cases marks <;> rfl

theorem State.sampledPress_context : (s.sampledPress p 7 v).context = (s.press p).sampledContext 7 (deliveredSample v) := by
  rw [State.sampledPress, Press.zoneSample_fields]
  rfl

theorem State.movedPress_context {c : CycleContext} (hc : (s.press p).context = some c) : ∃ reached fault,
    (s.movedPress p v).context = some (c.scanned reached c.panel.flags.tempExcursion fault) ∧
      (¬(s.press p).state.isClosed = true → reached = c.panel.segmentReached) := by
  obtain ⟨fault, sampled⟩ := (s.press p).sampledContext_fields 7 (deliveredSample v) hc
  have context := State.sampledPress_context.trans sampled
  by_cases closed : (s.press p).state.isClosed = true
  · obtain ⟨reached, moved⟩ := Press.moved_context (s.recipeOf p) s.heat.state s.clock context
    exact ⟨reached, fault, moved, fun h => absurd closed h⟩
  · obtain ⟨_, -, state, -, -⟩ := State.sampledPress_spec (s := s) (p := p) (z := 7) (v := v)
    refine ⟨_, fault, ?_, fun _ => rfl⟩
    rw [State.movedPress, Press.moved, Press.withSetpoints_context, Press.profiled_of_open _ _ (by rw [state]; exact closed)]
    exact context

/-- A press that is returned to HEATING stood in CHARGE_WAIT READY, and is not READY now (R77). -/
theorem Press.leaves_iff {x : Press} {r : Recipe} : x.leaves (some r) ↔ x.state = .chargeWait ∧ x.ready = true ∧
    (x.judged (some r)).ready = false ∧ ∃ u, x.setup = some u ∧ u.gating = .autoGate := by
  obtain ⟨-, -, -, turns⟩ := x.judged_marks r
  have gate : x.setup.map (·.gating) = some .autoGate ↔ ∃ u, x.setup = some u ∧ u.gating = .autoGate := Option.map_eq_some_iff
  rw [Press.leaves, turns, gate]
  constructor
  · rintro ⟨turned, ready, waits, gate⟩
    rw [ready] at turned
    exact ⟨waits, ready, by simpa using turned, gate⟩
  · rintro ⟨waits, ready, fell, gate⟩
    exact ⟨by rw [ready, fell]; exact Bool.false_ne_true, ready, waits, gate⟩

theorem Press.not_leaves_none (x : Press) : ¬x.leaves none := fun h => Bool.false_ne_true h.1

theorem Press.admissible_iff {x : Press} {heat : HeatState} : x.admissible heat = true ↔
    heat = .run ∧ ∃ u, x.setup = some u ∧ (u.gating = .monitor ∨ x.ready = true) := by
  unfold Press.admissible
  rcases x.setup with _ | u <;> simp

theorem Press.joins_iff {x : Press} {heat : HeatState} : x.joins heat = true ↔ x.state = .heating ∧
    heat = .run ∧ ∃ u, x.setup = some u ∧ (u.gating = .monitor ∨ x.ready = true) := by
  rw [Press.joins, Bool.and_eq_true, beq_iff_eq, Press.admissible_iff]

/-- The cure unit moves a press out of its state from CURING alone (R13). -/
theorem Press.cured_state_of_not_curing {x : Press} (cell : RoundingMode) (recipe : Option Recipe) (now : Clock)
    (other : x.state ≠ .curing) : (x.cured cell recipe now).state = x.state := by
  unfold Press.cured
  split
  · split
    · rw [Press.cureStep_state]
      exact if_neg fun due => other (Press.curing_of_cureDecision fun still => by
        rcases due with e | e <;> exact nomatch still.symm.trans e)
    · rfl
  · rfl

theorem Press.cured_forced {x : Press} (cell : RoundingMode) (recipe : Option Recipe) (now : Clock) (off : x.forced = false) :
    (x.cured cell recipe now).forced = false := by
  unfold Press.cured
  split
  · split
    · rw [Press.cureStep_eq]
      dsimp only [Press.enter]
      split
      · exact Bool.and_false _
      · exact Bool.and_false _
      · exact off
      · exact off
    · exact off
  · exact off

theorem Press.cured_none (x : Press) (cell : RoundingMode) (now : Clock) : x.cured cell none now = x := by
  unfold Press.cured
  split
  · cases x.context <;> rfl
  · rfl

end Place

/-- The forced level and the pins of a press that the scan leaves in its state are as they were (R3). -/
theorem ScanPlace.pins {s : State} {p : PressId} {x b a y : Press} {queue : List PressId}
    (h : ScanPlace s p x b a y queue) (pinned : x.Pinned) (moved : x.ScanKeeps b) (keeps : x.ScanKeeps a)
    (same : y.state = x.state) :
    y.forced = x.forced ∧ y.openPermit = x.openPermit ∧ y.ejector = x.ejector := by
  have frame := keeps.frame.trans h.keepsReadiness.frame
  have driven : y.forced = x.forced → y.drive = y → y.openPermit = x.openPermit ∧ y.ejector = x.ejector := fun forced drive => by
    refine ⟨?_, ?_⟩
    · rw [← congrArg Press.openPermit drive, pinned.openPermit, ← same]
      rfl
    · rw [← congrArg Press.ejector drive, pinned.ejector]
      simp only [Press.drive, Press.ejectorLevel, same, frame.stroke, forced]
  cases h with
  | cures closed =>
    have forces : x.state.allowsForce = false := by
      rcases x.isClosed_iff.1 closed with st | st <;> rw [st] <;> rfl
    have off : x.forced = false := by rw [pinned.forced, forces, Bool.and_false]
    have tracked : a.tracked.forced = false := (Press.tracked_keeps a).forced.trans (keeps.forced.trans off)
    have forced : (a.tracked.cured s.cell.rounding (s.recipeOf p) s.clock).drive.forced = x.forced :=
      (Press.cured_forced _ _ _ tracked).trans off.symm
    exact ⟨forced, driven forced rfl⟩
  | leaves open_ leaves => exact nomatch (moved.state.symm.trans leaves.2.2.1).symm.trans same.symm
  | joins open_ joins => exact nomatch (keeps.state.symm.trans (Press.joins_iff.1 joins).1).symm.trans same.symm
  | stays => exact ⟨keeps.forced, keeps.openPermit, keeps.ejector⟩

end Sys2Proof.Machine

/-! SUPPORT. The statement on readiness and admission at a press scan, clause by clause (R73..R78). -/

namespace Sys2Proof.Machine

section Clauses

variable {s : State} {p : PressId} {v : ZoneSample} {x b a y : Press} {queue : List PressId}

/-- Where a scan leaves a press that it found in HEATING (R78). -/
theorem ScanPlace.of_heating (h : ScanPlace s p x b a y queue) (heating : x.state = .heating) (moved : x.ScanKeeps b)
    (keeps : x.ScanKeeps a) :
    (s.heat.state = .run ∧ (∃ u, x.setup = some u ∧ (u.gating = .monitor ∨ y.ready = true)) →
      y.state = .chargeWait ∧ y.forced = false ∧ y.ejector = false ∧ queue = s.scale.queue ++ [p]) ∧
    (¬(s.heat.state = .run ∧ ∃ u, x.setup = some u ∧ (u.gating = .monitor ∨ y.ready = true)) →
      y.state = .heating ∧ queue = s.scale.queue) := by
  have joins : a.joins s.heat.state = true ↔
      s.heat.state = .run ∧ ∃ u, x.setup = some u ∧ (u.gating = .monitor ∨ y.ready = true) := by
    rw [Press.joins_iff, keeps.setup, h.keepsReadiness.ready]
    exact and_iff_right (keeps.state.trans heating)
  rw [← joins]
  cases h with
  | cures closed => simp [heating, PressState.isClosed] at closed
  | leaves open_ leaves => exact nomatch heating.symm.trans (moved.state.symm.trans leaves.2.2.1)
  | joins open_ enters =>
    have ejector : (a.enter .chargeWait).drive.ejector = false := by
      simp [Press.drive, Press.ejectorLevel, Press.enter, PressState.allowsForce]
    exact ⟨fun _ => ⟨rfl, Bool.and_false _, ejector, rfl⟩, fun h => absurd enters h⟩
  | stays open_ stays out => exact ⟨fun h => absurd h out, fun _ => ⟨keeps.state.trans heating, rfl⟩⟩

/-- Where a scan leaves a press that it found in CHARGE_WAIT (R77). -/
theorem ScanPlace.of_chargeWait {r : Recipe} (h : ScanPlace s p x b a y queue) (recipe : s.recipeOf p = some r)
    (waits : x.state = .chargeWait) (moved : x.ScanKeeps b) (keeps : x.ScanKeeps a) (judged : a = b.judged (s.recipeOf p))
    (ready : b.ready = x.ready) (off : x.forced = false) :
    (x.ready = true ∧ y.ready = false ∧ (∃ u, x.setup = some u ∧ u.gating = .autoGate) →
      y.state = .heating ∧ y.ejector = false ∧ queue = s.scale.queue.filter (· ≠ p)) ∧
    (¬(x.ready = true ∧ y.ready = false ∧ ∃ u, x.setup = some u ∧ u.gating = .autoGate) →
      y.state = .chargeWait ∧ queue = s.scale.queue) := by
  have leaves_iff : b.leaves (s.recipeOf p) ↔
      x.ready = true ∧ y.ready = false ∧ ∃ u, x.setup = some u ∧ u.gating = .autoGate := by
    rw [recipe, Press.leaves_iff, ready, moved.setup, ← recipe, ← judged, h.keepsReadiness.ready]
    exact and_iff_right (moved.state.trans waits)
  rw [← leaves_iff]
  cases h with
  | cures closed => simp [waits, PressState.isClosed] at closed
  | leaves open_ leaves =>
    have forced : a.forced = false := keeps.forced.trans off
    exact ⟨fun _ => ⟨rfl, by simp [Press.drive, Press.ejectorLevel, Press.enter, forced], rfl⟩, fun h => absurd leaves h⟩
  | joins open_ enters => exact nomatch waits.symm.trans (keeps.state.symm.trans (Press.joins_iff.1 enters).1)
  | stays open_ stays out => exact ⟨fun h => absurd h stays, fun _ => ⟨keeps.state.trans waits, rfl⟩⟩

/-- A scan moves no other press out of its state but one in CURING, and leaves the queue (R43). -/
theorem ScanPlace.of_other (h : ScanPlace s p x b a y queue) (notHeating : x.state ≠ .heating) (notWaits : x.state ≠ .chargeWait)
    (moved : x.ScanKeeps b) (keeps : x.ScanKeeps a) : queue = s.scale.queue ∧ (x.state ≠ .curing → y.state = x.state) := by
  cases h with
  | cures closed =>
    refine ⟨rfl, fun other => ?_⟩
    have state : a.tracked.state = x.state := (Press.tracked_keeps a).state.trans keeps.state
    exact (Press.cured_state_of_not_curing _ _ _ (by rw [state]; exact other)).trans state
  | leaves open_ leaves => exact absurd (moved.state.symm.trans leaves.2.2.1) notWaits
  | joins open_ enters => exact absurd (keeps.state.symm.trans (Press.joins_iff.1 enters).1) notHeating
  | stays open_ stays out => exact ⟨rfl, fun _ => keeps.state⟩

/-- Without a recipe a scan moves a press in HEATING alone (R78). -/
theorem ScanPlace.of_no_recipe (h : ScanPlace s p x b a y queue) (none : s.recipeOf p = none) (keeps : x.ScanKeeps a)
    (notHeating : x.state ≠ .heating) : y.state = x.state ∧ queue = s.scale.queue := by
  cases h with
  | cures closed =>
    rw [none, Press.cured_none]
    exact ⟨(Press.tracked_keeps a).state.trans keeps.state, rfl⟩
  | leaves open_ leaves => exact absurd (none ▸ leaves) b.not_leaves_none
  | joins open_ enters => exact absurd (keeps.state.symm.trans (Press.joins_iff.1 enters).1) notHeating
  | stays open_ stays out => exact ⟨keeps.state, rfl⟩

/-- Outside CURING and DEMOULD_DUE the last-step record and the context come from the readiness unit (R100). -/
theorem ScanPlace.of_open (h : ScanPlace s p x b a y queue) (open_ : ¬x.state.isClosed = true) :
    y.lastStep = a.lastStep ∧ y.context = a.context := by
  cases h with
  | cures closed => exact absurd closed open_
  | leaves => exact ⟨rfl, rfl⟩
  | joins => exact ⟨rfl, rfl⟩
  | stays => exact ⟨rfl, rfl⟩

end Clauses

theorem isMarked_iff (st : PressState) : st.isMarked = true ↔ st = .chargeReady ∨ st = .curing ∨ st = .demouldDue := by
  cases st <;> simp [PressState.isMarked]

/-- Settles O38: the scan leaves what the readiness unit judged, and the press in the place its judgement gives. -/
theorem readinessCountsPressScans : Obligations.ReadinessCountsPressScans := by
  unfold Obligations.ReadinessCountsPressScans
  intro s p x v law hx
  obtain ⟨y, queue, event, place⟩ := State.sampleZone_place (s := s) (p := p) (v := v)
  obtain ⟨moved, ready, run, rose, fell, lastStep⟩ := State.movedPress_spec (p := p) (v := v) law
  have none' := State.movedPress_context_none (s := s) (p := p) (v := v)
  have some' := @State.movedPress_context s p v
  have pinned := law.pinned p
  rw [hx] at place moved ready run rose fell lastStep none' some' pinned
  generalize s.movedPress p v = b at place moved ready run rose fell lastStep none' some'
  have judged : x.ScanKeeps (b.judged (s.recipeOf p)) := moved.trans (b.judged_keeps _)
  have kept := place.keepsReadiness
  have press : (s.sampleZone p 7 v).press p = y := by rw [event, State.settle_press, State.seat_press_self]
  have scale : (s.sampleZone p 7 v).scale = { s.scale with queue := queue } := by rw [event]; rfl
  have unmoved (h : queue = s.scale.queue) : (s.sampleZone p 7 v).scale = s.scale := by rw [scale, h]
  refine ⟨s.sampleZone p 7 v, y, exec_zoneSample s p 7 v, press, s.sampleZone_onlyChanges p 7 v, s.sampleZone_onlyPress p 7 v,
    s.sampleZone_handsOn p 7 v, (judged.frame.trans kept.frame).eq, place.pins pinned moved judged, fun none => ?noRecipe,
    fun r recipe => ?recipe, fun heating => ?_, fun notHeating notWaits => ?_, fun none => ?_, fun notCuring notDue => ?_⟩
  case noRecipe =>
    have reset : b.judged (s.recipeOf p) = b.resetReadiness := by rw [none]; rfl
    rw [kept.ready, kept.run, kept.changes, reset]
    refine ⟨rfl, rfl, rose, fell, fun notHeating => ?_⟩
    obtain ⟨state, same⟩ := place.of_no_recipe none judged notHeating
    exact ⟨state, unmoved same⟩
  case recipe =>
    have band (n : Nat) : WithinBand y n ↔ WithinBand b n :=
      (WithinBand.congr kept.frame.setup kept.zones kept.setpoints n).trans
        (by obtain ⟨_, _, _, _, _, e⟩ := b.judged_spec (s.recipeOf p)
            rw [e]
            exact WithinBand.congr (x := b) rfl rfl rfl n)
    obtain ⟨readyRose, readyFell, context, turns⟩ := b.judged_marks r
    have rows := b.judged_rows r
    rw [ready, run] at rows
    rw [ready] at readyRose readyFell context
    have forced (waits : x.state = .chargeWait) : x.forced = false := by
      rw [pinned.forced, waits]
      exact Bool.and_false _
    have judges : s.recipeOf p = some r := recipe
    have waiting (waits : x.state = .chargeWait) := place.of_chargeWait judges waits moved judged rfl ready (forced waits)
    simp only [kept.ready, kept.run, kept.changes, band] at waiting ⊢
    simp only [judges] at waiting ⊢
    obtain ⟨row1, row2, row3, row4, row5, row6⟩ := rows
    refine ⟨row1, row2, row3, row4, row5, row6, ?_, ?_, fun c hc => ?_, fun waits => ⟨fun h => ?_, fun h => ?_⟩⟩
    · rw [readyRose, rose, Bool.or_eq_true, Bool.and_eq_true, Bool.not_eq_true']
    · rw [readyFell, fell, Bool.or_eq_true, Bool.and_eq_true, Bool.not_eq_true']
    · obtain ⟨reached, fault, moves, -⟩ := some' hc
      have marked := isMarked_iff x.state
      rw [moves, moved.state] at context
      have excursion := kept.excursion
      rw [judges, context] at excursion
      split at excursion
      next fell =>
        rw [Bool.and_eq_true, Bool.and_eq_true, Bool.not_eq_true', marked, and_assoc] at fell
        obtain ⟨d, hd, flag⟩ := Option.map_eq_some_iff.1 (excursion.trans rfl)
        exact ⟨d, hd, by rw [flag]; exact ⟨fun _ => Or.inr fell, fun _ => rfl⟩⟩
      next still =>
        rw [Bool.and_eq_true, Bool.and_eq_true, Bool.not_eq_true', marked, and_assoc] at still
        obtain ⟨d, hd, flag⟩ := Option.map_eq_some_iff.1 (excursion.trans rfl)
        exact ⟨d, hd, by rw [flag]; exact ⟨Or.inl, fun h => h.resolve_right still⟩⟩
    · obtain ⟨state, ejector, same⟩ := (waiting waits).1 h
      exact ⟨state, ejector, by rw [scale, same]⟩
    · obtain ⟨state, same⟩ := (waiting waits).2 h
      exact ⟨state, unmoved same⟩
  · obtain ⟨joins, stays⟩ := place.of_heating heating moved judged
    refine ⟨fun h => ?_, fun h => ?_⟩
    · obtain ⟨state, forced, ejector, same⟩ := joins h
      exact ⟨state, forced, ejector, by rw [scale, same]⟩
    · obtain ⟨state, same⟩ := stays h
      exact ⟨state, unmoved same⟩
  · obtain ⟨same, state⟩ := place.of_other notHeating notWaits moved judged
    exact ⟨unmoved same, state⟩
  · exact place.context_none (b.judged_context_none _ (none' none))
  · have open_ : ¬x.state.isClosed = true := fun h => (x.isClosed_iff.1 h).elim notCuring notDue
    obtain ⟨last, context⟩ := place.of_open open_
    obtain ⟨_, _, _, _, _, e⟩ := b.judged_spec (s.recipeOf p)
    refine ⟨?_, fun c hc => ?_⟩
    · rw [last, ← lastStep, e]
    · obtain ⟨reached, fault, moves, same⟩ := some' hc
      rw [same open_] at moves
      obtain ⟨excursion, judges⟩ := Press.judged_context (s.recipeOf p) moves
      exact ⟨{ c.panel.flags with tempExcursion := excursion, sensorFault := fault }, context.trans judges⟩

end Sys2Proof.Machine

/-! SUPPORT. The countdown, and the changes of heat state that HEAT_PERMIT, HEAT_OFF and the lapse make (4.1, R62..R67). -/

namespace Sys2Proof.Machine

/-- Settles O43: the countdown has one step for each range of the count, and none outside RUN. -/
theorem countdownStepsToTheLapse : Obligations.CountdownStepsToTheLapse := by
  unfold Obligations.CountdownStepsToTheLapse
  intro s
  have step : exec .permitCountdownStep s = .next s.stepCountdown := exec_of_event (by rfl) s
  have lapse : exec .permitLapse s = .next s.expirePermit := exec_of_event (by rfl) s
  rw [step, lapse]
  unfold State.stepCountdown State.expirePermit
  refine ⟨fun run more => ?_, fun run last => ?_, fun cold => ?_⟩
  · rw [if_pos run, if_neg (by omega)]
    rfl
  · rw [if_pos run, if_pos last, if_pos run]
  · rw [if_neg cold, if_neg cold]
    exact ⟨rfl, rfl⟩

/-! ## A request that settles the part -/

/-- A request that settles the part, with what it leaves of the heat permit unit, the scale and the presses. -/
theorem serve_settled_blocks {s v : State} {c : Instr} {r : Reply} {blocks : List Block} (request : c.isRequest = true)
    (free : s.link.hand = none) (acts : serve c s = (v.settle, r)) (changes : OnlyChanges blocks s v)
    (attention : v.attention = s.attention) (link : v.link = s.link) :
    ∃ t, exec c s = .next t ∧ OnlyChanges (.attention :: .link :: blocks) s t ∧ HandsOn s t ∧ Answers c r s t ∧
      t.heat = v.heat ∧ t.scale = v.scale ∧ ∀ p, t.press p = v.press p := by
  obtain ⟨t, taken, only, hands, answers, -⟩ := serve_settled request free acts changes attention link
  have at_ : exec c s = .next (v.settle.putInHand (requestEntry c) r) := by
    rw [exec_of_isRequest request, State.request_of_free _ free, acts]
  obtain rfl : v.settle.putInHand (requestEntry c) r = t := by injection at_.symm.trans taken
  exact ⟨_, taken, only, hands, answers, rfl, rfl, fun p => by rw [State.putInHand_press, State.settle_press]⟩

/-! ## Heat granted -/

section Grant

variable (s : State) (d : Nat)

/-- The part with the count, the lapse flag and the countdown of a grant (R63, R64). -/
def State.counting : State :=
  { s with heat := { s.heat with remaining := d * 10, lapse := false, nextStep := laterBy s.clock 100 } }

theorem State.grantHeat_of_run (run : s.heat.state = .run) : s.grantHeat d = s.counting d :=
  if_pos run

/-- A grant admits the presses in HEATING that are under MONITOR (R66). -/
theorem Press.reheated_joins {recipe : Option Recipe} (x : Press) :
    (x.reheated recipe .run).drive.joins .run = true ↔
      x.state = .heating ∧ x.setup.map Setup.gating = some .monitor := by
  rw [Press.joins_iff, Option.map_eq_some_iff]
  constructor
  · rintro ⟨state, -, u, setup, gate⟩
    exact ⟨state, u, setup, gate.resolve_right Bool.false_ne_true⟩
  · rintro ⟨state, u, setup, gate⟩
    exact ⟨state, rfl, u, setup, .inl gate⟩

/-- Heat is granted from OFF or STANDBY: the presses under MONITOR that wait in HEATING join the queue (R66, R78). -/
theorem State.grantHeat_of_cold (cold : s.heat.state ≠ .run) : s.grantHeat d =
    ((s.counting d).inHeat .run).placed
      (fun p => if ((s.press p).reheated (s.recipeOf p) .run).drive.joins .run = true
        then (((s.press p).reheated (s.recipeOf p) .run).drive.enter .chargeWait).drive
        else ((s.press p).reheated (s.recipeOf p) .run).drive)
      (s.scale.queue ++ allPresses.filter fun p => ((s.press p).reheated (s.recipeOf p) .run).drive.joins .run) := by
  refine ((s.counting d).changeHeat_run cold).trans ((State.placed_foldl_evaluateAdmission _ _ _ _ allPresses_nodup).trans ?_)
  simp only [mem_allPresses, true_and]
  rfl

/-- A press that a grant admits: in CHARGE_WAIT, its forced level off (R3, R66). -/
theorem Press.admitted_eq {x : Press} {recipe : Option Recipe} (pins : x.Pinned) (waits : x.state = .heating) :
    ((x.reheated recipe .run).drive.enter .chargeWait).drive =
      { x.reheated recipe .run with state := .chargeWait, forced := false, ejector := false } := by
  have permit : x.openPermit = false := by rw [pins.openPermit, waits]; rfl
  simp [Press.drive, Press.ejectorLevel, Press.enter, PressState.allowsForce, Press.reheated, Press.withSetpoints,
    Press.resetReadiness, permit]

end Grant

/-- Settles O41: a grant in RUN changes the heat permit unit alone; from OFF or STANDBY it moves each press by its own state. -/
theorem heatPermitGrantsHeat : Obligations.HeatPermitGrantsHeat := by
  unfold Obligations.HeatPermitGrantsHeat
  rintro s duration d law free rfl given
  generalize bound : min duration.toNat 600 = d at given
  have answers : serve (.heatPermit duration) s = ((s.grantHeat d).settle,
      [0] ++ le16 (BitVec.ofNat 16 d) ++ [1] ++ le16 (BitVec.ofNat 16 (d * 10)) ++ [0]) := by
    have heat := s.grantHeat_heat d
    simp only [serve, serveHeatPermit, Config.maxPermit, bound, if_neg (Nat.one_le_iff_ne_zero.1 given)]
    refine congrArg (Prod.mk _) ?_
    rw [heatContents, State.settle_heat, heat]
    rfl
  have spares := Sparing.grantHeat s d
  obtain ⟨t, taken, only, hands, answered, heat, scale, press⟩ := serve_settled_blocks (by rfl) free answers spares.only
    (spares.only.2 .attention (by decide)) (spares.only.2 .link (by decide))
  refine ⟨t, taken, only.mono (by simp), hands, heat.trans (s.grantHeat_heat d), answered, fun run => ?_, fun cold => ⟨?_, ?_⟩⟩
  · have same := s.grantHeat_of_run d run
    refine ⟨?_, scale.trans (by rw [same]; rfl)⟩
    rw [t.presses_eq, s.presses_eq]
    exact congrArg Vector.ofFn (funext fun p => (press p).trans (by rw [same]; rfl))
  · rw [scale, s.grantHeat_of_cold d cold]
    refine congrArg (fun q => ({ s.scale with queue := s.scale.queue ++ q } : Scale)) (List.filter_congr fun p _ => ?_)
    exact Bool.eq_iff_iff.2 ((Press.reheated_joins _).trans decide_eq_true_iff.symm)
  · rintro p x y rfl rfl
    have pins := law.pinned p
    rw [press, s.grantHeat_of_cold d cold, State.placed_press]
    refine ⟨fun waits => ?_, fun stays => ?_⟩
    · rw [if_pos ((Press.reheated_joins _).2 waits), Press.admitted_eq pins waits.1]
      rfl
    · rw [if_neg (mt (Press.reheated_joins _).1 stays)]
      exact pins.drive_of_same (y := (s.press p).reheated (s.recipeOf p) .run)

end Sys2Proof.Machine

/-! SUPPORT. The falls to STANDBY and OFF as the manual gives them: HEAT_PERMIT of 0, the lapse, and HEAT_OFF
(4.1, R47, R63..R67). -/

namespace Sys2Proof.Machine

section Marks

variable {s : State} (mark : RecordFlags → RecordFlags)

/-- The context of a press whose cycle a fall of heat marks (R65, R67). -/
def Press.marked (mark : RecordFlags → RecordFlags) (x : Press) : Press :=
  if x.state.isMarked then x.addFlag mark else x

theorem Press.marked_eq (x : Press) : x.marked mark = { x with
    context := if x.state = .chargeReady ∨ x.state = .curing ∨ x.state = .demouldDue
      then x.context.map fun c => { c with panel := { c.panel with flags := mark c.panel.flags } } else x.context } := by
  unfold Press.marked
  by_cases h : x.state.isMarked = true
  · rw [if_pos h, if_pos ((isMarked_iff _).1 h)]
    rfl
  · rw [if_neg h, if_neg (mt (isMarked_iff _).2 h)]

/-- A mark that changes no flag changes nothing. -/
theorem Press.marked_id (x : Press) : x.marked id = x := by
  have same : CycleContext.onFlags id = id := rfl
  unfold Press.marked Press.addFlag Press.onContext
  rw [same, Option.map_id, id, ite_self]

theorem State.markCycles_press (law : PinLaw s) (p : PressId) : (s.markCycles mark).press p = (s.press p).marked mark := by
  refine (s.modAll_press _ p).trans (Press.Pinned.drive_of_same (x := s.press p) (y := (s.press p).marked mark) (law.pinned p)
    ?_ ?_ ?_ ?_ ?_)
  all_goals rw [Press.marked_eq]

theorem State.markCycles_id (law : PinLaw s) : s.markCycles id = s := by
  have presses : (s.markCycles id).presses = s.presses := by
    rw [(s.markCycles id).presses_eq, s.presses_eq]
    exact congrArg Vector.ofFn (funext fun p => (State.markCycles_press id law p).trans (Press.marked_id _))
  exact congrArg (fun v => ({ s with presses := v } : State)) presses

end Marks

/-! ## A press and the queue after a fall -/

section Falls

variable {s : State} {new : HeatState} {mark : RecordFlags → RecordFlags} {lapse : Bool}

/-- The part with no count remaining and a lapse flag (R63, R64). -/
def State.stopped (s : State) (lapse : Bool) : State :=
  { s with heat := { s.heat with remaining := 0, lapse := lapse } }

/-- The part after a fall of heat to a new heat state, with its cycles marked (R65..R67). -/
def State.fallen (s : State) (new : HeatState) (mark : RecordFlags → RecordFlags) (lapse : Bool) : State :=
  ((s.stopped lapse).markCycles mark).changeHeat new

theorem Sparing.fallen : Sparing [.presses, .heat, .scale] s (s.fallen new mark lapse) :=
  (Sparing.setHeat s _).trans ((Sparing.markCycles _ _).trans (.changeHeat _ new))

/-- A press that a fall takes out of CHARGE_WAIT drives the pins it drove (R3, R66). -/
theorem Press.Pinned.drive_of_unwaited {x y : Press} (pins : x.Pinned)
    (state : y.state = if x.state = .chargeWait then .heating else x.state) (stroke : y.stroke = x.stroke := by rfl)
    (forced : y.forced = x.forced := by rfl) (openPermit : y.openPermit = x.openPermit := by rfl)
    (ejector : y.ejector = x.ejector := by rfl) : y.drive = y := by
  by_cases waits : x.state = .chargeWait
  · obtain ⟨off, quiet, cold⟩ := pins.quiet (by rw [waits]; rfl) (by rw [waits]; nofun) (by rw [waits]; nofun)
    rw [if_pos waits] at state
    rw [off] at openPermit
    rw [quiet] at ejector
    rw [cold] at forced
    refine Press.Pinned.drive_eq ⟨?_, ?_, ?_⟩
    · rw [openPermit, state]; rfl
    · rw [ejector]; simp [Press.ejectorLevel, state, forced]
    · rw [forced]; rfl
  · exact pins.drive_of_same (state.trans (if_neg waits)) stroke forced openPermit ejector

/-- A fall of heat, read at the presses, the scale and the heat permit unit (R47, R65, R66, R67). -/
theorem State.fallen_changes (pins : PinLaw s) (queue : QueueLaw s) (moves : s.heat.state ≠ new) (cold : new ≠ .run) :
    HeatChangesTo new mark lapse s (s.fallen new mark lapse) := by
  obtain ⟨waiting, -, -, -, -, -, run⟩ := queue
  have marked (p : PressId) : ((s.stopped lapse).markCycles mark).press p = (s.press p).marked mark :=
    State.markCycles_press (s := s.stopped lapse) mark pins p
  have heat : ((s.stopped lapse).markCycles mark).heat = { s.heat with remaining := 0, lapse := lapse } := rfl
  have state (p : PressId) : ((s.press p).marked mark).state = (s.press p).state := by rw [Press.marked_eq]
  have setup (p : PressId) : ((s.press p).marked mark).setup = (s.press p).setup := by rw [Press.marked_eq]
  have recipe (p : PressId) : ((s.stopped lapse).markCycles mark).recipeOf p = s.recipeOf p :=
    State.recipeOf_congr ((congrArg Press.setup (marked p)).trans (setup p)) rfl
  have waits (p : PressId) : s.heat.state = .run ∧ (s.press p).state = .chargeWait ↔ (s.press p).state = .chargeWait :=
    and_iff_right_of_imp (run p)
  have fall : s.fallen new mark lapse = _ := State.changeHeat_cold ((s.stopped lapse).markCycles mark) (new := new) moves cold
  refine ⟨?_, ?_, ?_⟩
  · rw [State.fallen, State.changeHeat_heat, heat]
  · rw [fall]
    refine congrArg (fun q => ({ s.scale with queue := q } : Scale)) (List.filter_eq_nil_iff.2 fun p hp => ?_)
    have here := (waiting p).1 hp
    rw [marked, state]
    rw [heat]
    simpa using (waits p).2 here
  · rintro p x rfl
    rw [fall, State.placed_press, recipe, marked, Press.cooled_eq, state]
    have old : (s.stopped lapse).heat.state = s.heat.state := rfl
    simp only [heat, waits]
    refine ((pins.pinned p).drive_of_unwaited ?_ ?_ ?_ ?_ ?_).trans ?_
    all_goals rw [Press.marked_eq]
    all_goals rfl

theorem HeatChangesTo.congr {t v : State} (h : HeatChangesTo new mark lapse s v) (heat : t.heat = v.heat)
    (scale : t.scale = v.scale) (press : ∀ p, t.press p = v.press p) : HeatChangesTo new mark lapse s t := by
  obtain ⟨heats, scales, presses⟩ := h
  exact ⟨heat.trans heats, scale.trans scales, fun p x hx => (press p).trans (presses p x hx)⟩

/-- A heat request that makes a fall of heat. -/
theorem serve_fall {c : Instr} {r : Reply} (pins : PinLaw s) (queue : QueueLaw s) (moves : s.heat.state ≠ new)
    (cold : new ≠ .run) (request : c.isRequest = true) (free : s.link.hand = none)
    (acts : serve c s = ((s.fallen new mark lapse).settle, r)) :
    ∃ t, exec c s = .next t ∧ OnlyChanges [.presses, .heat, .scale, .attention, .link] s t ∧ HandsOn s t ∧
      HeatChangesTo new mark lapse s t ∧ Answers c r s t := by
  have spares : Sparing [.presses, .heat, .scale] s (s.fallen new mark lapse) := .fallen
  obtain ⟨t, taken, only, hands, answered, heat, scale, press⟩ := serve_settled_blocks request free acts spares.only
    (spares.only.2 .attention (by decide)) (spares.only.2 .link (by decide))
  exact ⟨t, taken, only.mono (by simp), hands, (State.fallen_changes pins queue moves cold).congr heat scale press, answered⟩

theorem State.standByHeat_eq_fallen (pins : PinLaw s) : s.standByHeat = s.fallen .standby id s.heat.lapse := by
  have same : (s.stopped s.heat.lapse).markCycles id = s.stopped s.heat.lapse := State.markCycles_id pins
  rw [State.fallen, same]
  rfl

theorem num16_zero : num16 0 = [0, 0] := by decide

theorem serve_heatPermit_zero : serve (.heatPermit 0) s = (s.standByHeat.settle,
    [0, 0, 0, 2, 0, 0, if s.heat.lapse then 1 else 0]) := by
  have heat : s.standByHeat.settle.heat = { s.heat with state := .standby, remaining := 0 } := s.standByHeat_heat
  have reply : heatContents s.standByHeat.settle = [2, 0, 0, if s.heat.lapse then 1 else 0] := by
    rw [heatContents, heat, num16_zero]
    rfl
  refine congrArg (Prod.mk _) ?_
  have contents := congrArg (fun b => okReply (num16 0 ++ b)) reply
  rwa [num16_zero] at contents

theorem serve_heatOff : serve .heatOff s = (s.turnHeatOff.settle, [0, 0, 0, 0, if s.heat.lapse then 1 else 0]) := by
  have heat : s.turnHeatOff.settle.heat = { s.heat with state := .off, remaining := 0 } := s.turnHeatOff_heat
  have reply : heatContents s.turnHeatOff.settle = [0, 0, 0, if s.heat.lapse then 1 else 0] := by
    rw [heatContents, heat, num16_zero]
    rfl
  exact congrArg (fun b => (s.turnHeatOff.settle, okReply b)) reply

/-- Without heat the count is 0 already (R62). -/
theorem PermitLaw.stopped (law : PermitLaw s) (cold : s.heat.state ≠ .run) : s.stopped s.heat.lapse = s := by
  obtain ⟨counts, -⟩ := law
  have zero : s.heat.remaining = 0 := Nat.eq_zero_of_not_pos (mt counts.1 cold)
  rw [State.stopped, ← zero]

end Falls

/-- Settles O42: each fall is one change of heat state with its mark; where the heat state is reached already only the mark is
left. -/
theorem heatFallsToStandbyOrOff : Obligations.HeatFallsToStandbyOrOff := by
  unfold Obligations.HeatFallsToStandbyOrOff
  refine fun s pins queue permit => ⟨fun moves free => ?_, fun still free => ?_, fun run => ?_, fun moves free => ?_,
    fun still free => ?_⟩
  · refine serve_fall pins queue moves nofun (by rfl) free ?_
    rw [← State.standByHeat_eq_fallen pins]
    exact serve_heatPermit_zero
  · have same : s.standByHeat = s := (if_pos still).trans (permit.stopped (by rw [still]; nofun))
    have served := serve_heatPermit_zero (s := s)
    rw [same] at served
    obtain ⟨t, taken, only, hands, answered, -⟩ := serve_settled_blocks (by rfl) free served (.refl s) rfl rfl
    exact ⟨t, taken, only, hands, answered⟩
  · have spares : Sparing [.presses, .heat, .scale] s s.lapsed := .lapsed s
    have lapse : s.expirePermit = s.lapsed.settle := (if_pos run).trans s.lapseHeat_eq
    have taken : exec .permitLapse s = .next s.lapsed.settle := (exec_of_event (by rfl) s).trans (congrArg _ lapse)
    refine ⟨s.lapsed.settle, taken, (spares.only.mono (by simp)).settle (by simp),
      State.settle_handsOn (spares.only.2 .attention (by decide)), ?_⟩
    have moves : s.heat.state ≠ .standby := by rw [run]; nofun
    exact (State.fallen_changes pins queue moves nofun).congr rfl rfl fun p => State.settle_press s.lapsed p
  · exact serve_fall pins queue moves nofun (by rfl) free serve_heatOff
  · have same : s.turnHeatOff = s.markCycles fun f => { f with heatOff := true } := by
      refine (if_pos still).trans ?_
      exact congrArg (State.markCycles · _) (permit.stopped (by rw [still]; nofun))
    have served := serve_heatOff (s := s)
    rw [same] at served
    obtain ⟨t, taken, only, hands, answered, -, -, press⟩ := serve_settled_blocks (by rfl) free served (.modAll s _) rfl rfl
    refine ⟨t, taken, only.mono (by simp), hands, answered, ?_⟩
    rintro p x rfl
    exact (press p).trans ((State.markCycles_press _ pins p).trans (Press.marked_eq _ _))

end Sys2Proof.Machine

/-! SUPPORT. The scale at a load-cell sample, state by state: the samples that judge no charge, and the charge that is
accepted (6.1..6.4, R103..R114). -/

namespace Sys2Proof.Machine

/-! ## The rule of each scale state -/

section Rules

variable {s : State} {gross net : Int} {stable : Bool}

theorem State.rawRule_of_emptySettle (h : s.scale.state = .emptySettle) : s.rawRule gross net stable =
    if s.scale.settings.placeThreshold ≤ net then { s with scale := s.scale.toLoading true gross }
    else if stable = true then { s with scale := s.scale.autoZero gross } else s := by
  rw [State.rawRule, h]

/-- A run below the place threshold that becomes stable in EMPTY_SETTLE is judged as a tare (R108). -/
theorem State.rawRule_of_autoZero (h : s.scale.state = .emptySettle) (place : net < s.scale.settings.placeThreshold)
    (turns : stable = true) : s.rawRule gross net stable = { s with scale := s.scale.autoZero gross } :=
  (State.rawRule_of_emptySettle h).trans ((if_neg (Int.not_le.2 place)).trans (if_pos turns))

theorem State.rawRule_of_empty (h : s.scale.state = .empty) : s.rawRule gross net stable =
    if s.scale.settings.placeThreshold ≤ net then { s with scale := s.scale.toLoading false gross } else s := by
  rw [State.rawRule, h]

theorem State.rawRule_of_loading (h : s.scale.state = .loading) : s.rawRule gross net stable =
    if net < s.scale.settings.emptyThreshold then { s with scale := s.scale.chargeLifted gross }
    else if stable = true then s.verdictEvent net else s := by
  rw [State.rawRule, h]

theorem State.rawRule_of_removeWait (h : s.scale.state = .removeWait) : s.rawRule gross net stable =
    if net < s.scale.settings.emptyThreshold then { s with scale := s.scale.chargeRemoved gross } else s := by
  rw [State.rawRule, h]

theorem State.rawRule_of_tareFault (h : s.scale.state = .tareFault) : s.rawRule gross net stable = s := by
  rw [State.rawRule, h]

end Rules

/-- The run of a scale at a RAW sample, as its table gives it (R105). -/
theorem State.sampledScale_eq (s : State) (v : BitVec 24) : s.sampledScale v = { s.scale with
    lastSample := some (.raw v.toInt (s.grossOf v) (s.netOf v))
    lastRaw := v.toInt
    anchor := some (match s.scale.anchor with
      | some a => if (s.grossOf v - a).natAbs ≤ s.scale.settings.band then a else s.grossOf v
      | none => s.grossOf v)
    count := match s.scale.anchor with
      | some a => if (s.grossOf v - a).natAbs ≤ s.scale.settings.band then min 255 (s.scale.count + 1) else 1
      | none => 1 } := by
  unfold State.sampledScale Scale.updateRun
  generalize s.grossOf v = gross
  cases run : s.scale.anchor with
  | none => rfl
  | some a =>
    dsimp only
    split
    next => rw [← run]
    next => rfl

/-- A run becomes stable at the sample that takes its count to `qualify` (R105). -/
theorem becameStable_iff_count (before after : Scale) : becameStable before after = true ↔
    after.count = before.count + 1 ∧ after.count = after.settings.qualify := by
  rw [becameStable_iff]
  exact ⟨fun ⟨h, k⟩ => ⟨k.trans h.symm, k⟩, fun ⟨h, k⟩ => ⟨h.symm.trans k, k⟩⟩

/-- Settles O44: each row is one branch of the rule of its state. -/
theorem samplesMoveTheEmptyScale : Obligations.SamplesMoveTheEmptyScale := by
  unfold Obligations.SamplesMoveTheEmptyScale
  refine fun s => ⟨⟨_, exec_loadCellSample _ s, ?_⟩, fun v gross net c after hgross hnet hc rows => ?_⟩
  · rw [State.sampleScale_overload]
    exact ⟨State.setScale_settle_onlyChanges _, State.settle_handsOn rfl, rfl⟩
  have gross_eq : s.grossOf v = gross := hgross.symm
  have net_eq : s.netOf v = net := by
    rw [State.netOf, gross_eq]
    exact hnet.symm
  have scale : s.sampledScale v = c := by
    rw [State.sampledScale_eq, gross_eq, net_eq]
    exact hc.symm
  have last : c.lastRaw = v.toInt := by rw [hc]
  have acts : ({ s with scale := c } : State).rawRule gross net (becameStable s.scale c) = { s with scale := after } := by
    generalize stable : becameStable s.scale c = b
    have turned : b = true ↔ c.count = s.scale.count + 1 ∧ c.count = c.settings.qualify := by
      rw [← stable]
      exact becameStable_iff_count s.scale c
    rcases rows with ⟨st, place, rfl⟩ | ⟨st, place, counted, full, tare, rfl⟩ | ⟨st, place, counted, full, tare, rfl⟩ |
      ⟨st, place, runs, rfl⟩ | ⟨st, place, rfl⟩ | ⟨st, place, rfl⟩ | ⟨st, lifted, rfl⟩ | ⟨st, lies, runs, rfl⟩ |
      ⟨st, lifted, rfl⟩ | ⟨st, lies, rfl⟩ | ⟨st, rfl⟩
    · exact (State.rawRule_of_emptySettle st).trans (if_pos place)
    · refine (State.rawRule_of_autoZero st place (turned.2 ⟨counted, full⟩)).trans ?_
      dsimp only
      rw [Scale.autoZero, if_pos tare, last]
    · refine (State.rawRule_of_autoZero st place (turned.2 ⟨counted, full⟩)).trans ?_
      dsimp only
      rw [Scale.autoZero, if_neg (Int.not_le.2 tare)]
    · exact (State.rawRule_of_emptySettle st).trans ((if_neg (Int.not_le.2 place)).trans (if_neg (mt turned.1 runs)))
    · exact (State.rawRule_of_empty st).trans (if_pos place)
    · exact (State.rawRule_of_empty st).trans (if_neg (Int.not_le.2 place))
    · exact (State.rawRule_of_loading st).trans (if_pos lifted)
    · exact (State.rawRule_of_loading st).trans ((if_neg (Int.not_lt.2 lies)).trans (if_neg (mt turned.1 runs)))
    · exact (State.rawRule_of_removeWait st).trans (if_pos lifted)
    · exact (State.rawRule_of_removeWait st).trans (if_neg (Int.not_lt.2 lies))
    · exact State.rawRule_of_tareFault st
  refine ⟨_, exec_loadCellSample _ s, ?_⟩
  rw [State.sampleScale_raw, scale, gross_eq, net_eq, acts]
  exact ⟨State.setScale_settle_onlyChanges _, State.settle_handsOn rfl, rfl⟩

/-! ## An accepted charge -/

section Accepted

variable {s : State} {p : PressId} {rest : List PressId} {r : Recipe} {u : Setup} {mass : Int}

/-- The context that a press opens for an accepted charge (R10). -/
def State.opened (s : State) (p : PressId) (slot : SlotId) (mass : Int) : CycleContext :=
  openedContext p slot s.history.nextSerial mass s.clock s.scale.stale

/-- An accepted charge: the head press takes it, and the scale holds the verdict (R10, R113, R114). -/
theorem State.verdictEvent_of_accept (judged : judgeCharge s mass = .accept) (queue : s.scale.queue = p :: rest)
    (setup : (s.press p).setup = some u) : s.verdictEvent mass =
      { ({ s with history := s.history.takeSerial } : State).seat p
          (Press.drive { (s.press p).enter .chargeReady with context := some (s.opened p u.slot mass) })
          (s.scale.queue.filter (· ≠ p)) with
        scale := { s.scale with
          queue := s.scale.queue.filter (· ≠ p)
          state := .removeWait
          held := some { verdict := .accept, mass := mass, time := s.clock, press := some p,
                         serial := some s.history.nextSerial, tareStale := s.scale.stale } } } := by
  unfold State.verdictEvent State.giveCharge State.leaveQueue
  rw [judged]
  simp only [queue, setup]
  rfl

/-- A press that leaves CHARGE_WAIT with its context: outputs and forced level stay off (R3, R10). -/
theorem Press.Pinned.charged {x : Press} (pins : x.Pinned) (waits : x.state = .chargeWait) (d : CycleContext) :
    Press.drive { x.enter .chargeReady with context := some d } = { x with state := .chargeReady, context := some d } := by
  obtain ⟨permit, ejector, forced⟩ := pins.quiet (by rw [waits]; rfl) (by rw [waits]; nofun) (by rw [waits]; nofun)
  simp [Press.drive, Press.enter, Press.ejectorLevel, PressState.allowsForce, permit, ejector, forced]

/-- The head of a queue that holds no press twice leaves it (R114). -/
theorem filter_head_ne (nodup : (p :: rest).Nodup) : (p :: rest).filter (· ≠ p) = rest := by
  obtain ⟨fresh, -⟩ := List.nodup_cons.1 nodup
  rw [List.filter_cons_of_neg (by simp), List.filter_eq_self]
  exact fun q hq => decide_eq_true (ne_of_mem_of_not_mem hq fresh)

/-- The next serial advances, and the last of them sets the exhausted mark (R134). -/
theorem History.takeSerial_eq {h : History} (bound : h.nextSerial ≤ 4294967295) (fresh : h.exhausted = false) :
    h.takeSerial = { h with
      nextSerial := if h.nextSerial = 4294967295 then 4294967295 else h.nextSerial + 1
      exhausted := decide (h.nextSerial = 4294967295) } := by
  unfold History.takeSerial Config.serialMax
  by_cases last : h.nextSerial = 4294967295
  · rw [if_neg (by omega), if_pos last, decide_eq_true last, ← last]
  · rw [if_pos (by omega), if_neg last, decide_eq_false last, ← fresh]

end Accepted

/-- Settles O45: the sample is the verdict event on the sampled scale, which gives the charge to the head press. -/
theorem acceptedChargeOpensTheContext : Obligations.AcceptedChargeOpensTheContext := by
  unfold Obligations.AcceptedChargeOpensTheContext
  rintro s p rest x u r v gross net c law queues rfl queue setup stored fresh bound hgross hnet hc loading present counted
    qualified least most
  obtain ⟨waits, nodup, -⟩ := queues
  have sampled := State.sampleScale_of_stableCharge hgross hnet hc loading present counted qualified
  have sameQueue : c.queue = s.scale.queue := by simp [hc]
  have stale : c.stale = s.scale.stale := by simp [hc]
  have recipe : s.recipeOf p = some r := by rw [State.recipeOf, setup]; exact stored
  have judged : judgeCharge { s with scale := c } net = .accept := by
    rw [judgeCharge_setScale sameQueue, judgeCharge_of_recipe queue fresh recipe, if_neg (Int.not_lt.2 least),
      if_neg (Int.not_lt.2 most)]
  have gives := State.verdictEvent_of_accept (s := { s with scale := c }) judged (sameQueue.trans queue) setup
  have waiting : (s.press p).state = .chargeWait := (waits p).1 (by rw [queue]; exact List.mem_cons_self)
  have left : c.queue.filter (· ≠ p) = rest := by
    rw [sameQueue, queue]
    exact filter_head_ne (queue ▸ nodup)
  refine ⟨_, exec_loadCellSample _ s, ?_, ?_, ?_, ?_, ?_, ?_⟩ <;> rw [sampled]
  · exact (((OnlyChanges.setScale s c).trans (.verdictEvent _ net)).mono (by simp)).settle (by simp)
  · rw [gives]
    exact fun q other => s.seat_press_ne p _ rest other
  · rw [gives]
    exact State.settle_handsOn rfl
  · rw [gives, State.settle_press]
    refine (s.seat_press_self p _ rest).trans ?_
    have opened : State.opened { s with scale := c } p u.slot net =
        openedContext p u.slot s.history.nextSerial net s.clock s.scale.stale := by
      rw [State.opened, stale]
    rw [opened]
    exact (law.pinned p).charged waiting _
  · rw [gives]
    exact History.takeSerial_eq bound fresh
  · rw [gives]
    dsimp only [State.settle]
    rw [left, stale]

end Sys2Proof.Machine

/-! SUPPORT. SCALE_SET and SCALE_ZERO, and the levels of the attention controller by their tables (6.6, 8.1..8.5). -/

namespace Sys2Proof.Machine

/-! ## The settings of the scale -/

section Settings

/-- Field `n` of SCALE_SET lies in its range (R118). -/
def ScaleSettings.InRange (k : ScaleSettings) : Nat → Prop
  | 1 => -8388608 ≤ k.zero ∧ k.zero ≤ 8388607
  | 2 => 1 ≤ k.gain ∧ k.gain ≤ 16777215
  | 3 => 1 ≤ k.band ∧ k.band ≤ 1000
  | 4 => 3 ≤ k.qualify ∧ k.qualify ≤ 50
  | 5 => 1 ≤ k.placeThreshold ∧ k.placeThreshold ≤ 8388607
  | 6 => 1 ≤ k.emptyThreshold ∧ k.emptyThreshold ≤ 8388606 ∧ k.emptyThreshold < k.placeThreshold
  | 7 => 0 ≤ k.tareLimit ∧ k.tareLimit ≤ 100000
  | _ => True

variable {k : ScaleSettings}

open Classical in
/-- The field reported is the first of the seven that is out of range (R118). -/
theorem failingSetting_eq_find (k : ScaleSettings) :
    failingSetting k = (List.range' 1 7).find? fun n => decide ¬k.InRange n := by
  unfold failingSetting
  split_ifs <;> simp [List.range', ScaleSettings.InRange, *]

theorem failingSetting_of_first {n : Nat} (low : 1 ≤ n) (high : n ≤ 7) (before : ∀ m, 1 ≤ m → m < n → k.InRange m)
    (fails : ¬k.InRange n) : failingSetting k = some n := by
  rw [failingSetting_eq_find, List.find?_range'_eq_some]
  refine ⟨by simpa using fails, List.mem_range'_1.2 ⟨low, by omega⟩, fun m one less => ?_⟩
  simpa using before m one less

theorem failingSetting_of_all (good : ∀ m, 1 ≤ m → m < 8 → k.InRange m) : failingSetting k = none := by
  rw [failingSetting_eq_find, List.find?_range'_eq_none]
  exact fun m one less => by simpa using good m one less

/-- The settings in force read back as SCALE_SET carried them (R183, R188). -/
theorem settingsOf_bytes (zero gain : BitVec 32) (band : BitVec 16) (qualify : Byte) (place empty tareLimit : BitVec 32) :
    (settingsOf zero gain band qualify place empty tareLimit).bytes =
      le32 zero ++ le32 gain ++ le16 band ++ [qualify] ++ le32 place ++ le32 empty ++ le32 tareLimit := by
  simp [ScaleSettings.bytes, settingsOf, int32, num32, num16, num8]

/-- A change of the scale alone. -/
theorem OnlyChanges.onlyScale (s : State) (c : Scale) : OnlyChanges [.scale] s { s with scale := c } :=
  ⟨rfl, fun b hb => by cases b <;> simp_all [State.keeps]⟩

end Settings

/-- Settles O47: the settings are tested field by field, and both requests settle the scale. -/
theorem scaleRequestsSettleTheScale : Obligations.ScaleRequestsSettleTheScale := by
  unfold Obligations.ScaleRequestsSettleTheScale
  refine fun s free => ⟨?set, fun notLoading notRemove => ?zero, fun busy => ?busy⟩
  case set =>
    rintro zero gain band qualify place empty tareLimit cmd good rfl rows
    have ranges (k : Nat) : good k ↔ ∀ m, 1 ≤ m → m < k → (settingsOf zero gain band qualify place empty tareLimit).InRange m := by
      rw [rows]
      constructor
      · rintro ⟨zero', gain', band', qualify', place', empty', tare'⟩ m one less
        match m with
        | 1 => exact zero' less
        | 2 => exact gain' less
        | 3 => exact band' less
        | 4 => exact qualify' less
        | 5 => exact place' less
        | 6 => exact empty' less
        | 7 => exact tare' less
        | m + 8 => exact trivial
      · intro h
        exact ⟨h 1 (by decide), h 2 (by decide), h 3 (by decide), h 4 (by decide), h 5 (by decide), h 6 (by decide),
          h 7 (by decide)⟩
    refine ⟨fun all notLoading => ?_, fun all loading => ?_, fun k one seven before fails => ?_⟩
    · have taken := failingSetting_of_all ((ranges 8).1 all)
      have served : serve (.scaleSet zero gain band qualify place empty tareLimit) s =
          (({ s with scale := s.scale.configure (settingsOf zero gain band qualify place empty tareLimit) } : State).settle,
            [0] ++ le32 zero ++ le32 gain ++ le16 band ++ [qualify] ++ le32 place ++ le32 empty ++ le32 tareLimit) := by
        simp only [serve, serveScaleSet, taken, notLoading, if_false]
        exact congrArg (fun b => (_, 0 :: b)) (settingsOf_bytes ..)
      obtain ⟨t, taken, only, hands, answered, -, scale, -⟩ := serve_settled_blocks (by rfl) free served
        (OnlyChanges.onlyScale s _) rfl rfl
      exact ⟨t, taken, only.mono (by simp), hands, scale, answered⟩
    · have taken := failingSetting_of_all ((ranges 8).1 all)
      exact exec_onlyAnswers (by rfl) free (by simp only [serve, serveScaleSet, taken, loading, if_true] <;> rfl)
    · have first' : failingSetting (settingsOf zero gain band qualify place empty tareLimit) = some k := by
        refine failingSetting_of_first one seven ((ranges k).1 before) fun inRange => fails ((ranges (k + 1)).2 fun m low high => ?_)
        rcases Nat.lt_succ_iff_lt_or_eq.1 high with less | rfl
        · exact (ranges k).1 before m low less
        · exact inRange
      exact exec_onlyAnswers (by rfl) free (by simp only [serve, serveScaleSet, first'] <;> rfl)
  case zero =>
    have served : serve .scaleZero s = (({ s with scale := s.scale.rezero } : State).settle,
        0 :: le32 (BitVec.ofInt 32 s.scale.lastRaw)) := by
      simp only [serve, serveScaleZero, notLoading, notRemove, or_self, if_false]
      rfl
    obtain ⟨t, taken, only, hands, answered, -, scale, -⟩ := serve_settled_blocks (by rfl) free served
      (OnlyChanges.onlyScale s _) rfl rfl
    exact ⟨t, taken, only.mono (by simp), hands, scale, answered⟩
  case busy =>
    exact exec_onlyAnswers (by rfl) free (by simp only [serve, serveScaleZero, busy, if_true] <;> rfl)

end Sys2Proof.Machine

/-! SUPPORT. The levels of the attention controller, each thing by its own table (6.7, 7.3, 8.1..8.5). -/

namespace Sys2Proof.Machine

section Conditions

variable (s : State) (x : Press)

theorem Press.isActive_iff (z : ZoneId) : x.isActive z = true ↔ ∃ u, x.setup = some u ∧ u.zones.getLsbD z.val = true := by
  unfold Press.isActive
  cases x.setup <;> simp

/-- A press gives a cause of level 0 (R142). -/
theorem Press.faultCause_iff : x.faultCause = true ↔ x.state = .ejectFault ∨
    (x.state ≠ .offline ∧ ∃ (u : Setup) (z : ZoneId), x.setup = some u ∧ u.zones.getLsbD z.val = true ∧
      x.zones[z].sensor = .fault) := by
  have zones : (∃ z, x.isActive z = true ∧ x.zones[z].sensor = .fault) ↔ ∃ (u : Setup) (z : ZoneId), x.setup = some u ∧
      u.zones.getLsbD z.val = true ∧ x.zones[z].sensor = .fault := by
    simp only [Press.isActive_iff]
    constructor
    · rintro ⟨z, ⟨u, setup, named⟩, fault⟩
      exact ⟨u, z, setup, named, fault⟩
    · rintro ⟨u, z, setup, named, fault⟩
      exact ⟨z, ⟨u, setup, named⟩, fault⟩
  rw [← zones, or_comm]
  simp [Press.faultCause, allZones]

/-- The scale gives level 2 (R122). -/
theorem Scale.alarm_iff (c : Scale) : c.alarm = true ↔
    (c.state = .removeWait ∧ ∃ v, c.held = some v ∧ v.verdict ≠ .accept) ∨ c.state = .tareFault := by
  unfold Scale.alarm
  cases c.held <;> simp

theorem State.condition_zero : s.condition 0 = true ↔ ∃ p, (s.press p).faultCause = true := by
  simp [State.condition]

theorem State.condition_unload (p : PressId) {l : LevelId} (h : l.val = 4 + p.val) :
    s.condition l = ((s.press p).state == .unloadWait) := by
  have here : Fin.ofNat 4 l.val = p := Fin.ext (by simp [Fin.ofNat, h])
  unfold State.condition
  rw [here, if_neg (by omega), if_neg (by omega), if_neg (by omega), if_neg (by omega), if_pos (by omega)]

theorem State.condition_charge (p : PressId) {l : LevelId} (h : l.val = 8 + p.val) :
    s.condition l = ((s.press p).state == .chargeReady) := by
  have here : Fin.ofNat 4 l.val = p := Fin.ext (by simp [Fin.ofNat, h]; omega)
  unfold State.condition
  rw [here, if_neg (by omega), if_neg (by omega), if_neg (by omega), if_neg (by omega), if_neg (by omega)]

end Conditions

section Requests

variable (k : Level) (value : Bool)

theorem Level.handOn_of_level (edge : k.edge = false) :
    k.handOn value = { k with condition := value, request := value } := by
  rw [Level.handOn, edge]
  rfl

theorem Level.handOn_of_rise (edge : k.edge = true) (low : k.condition = false) (armed : k.armed = true) :
    k.handOn true = { k with condition := true, request := true, armed := false } := by
  rw [Level.handOn, edge, low, armed, Bool.or_true]
  rfl

theorem Level.handOn_of_fall (edge : k.edge = true) (high : k.condition = true) :
    k.handOn false = { k with condition := false, armed := true } := by
  rw [Level.handOn, edge, high]
  rfl

theorem Level.handOn_of_same (edge : k.edge = true) : k.handOn k.condition = k := by
  rw [Level.handOn, edge]
  cases k.condition <;> rfl

end Requests

/-- The rank of a level in the ring (R149). -/
theorem rank_eq_emod (lowest l : LevelId) : (rank lowest l : Int) = ((l.val : Int) - lowest.val - 1) % 12 := by
  unfold rank
  omega

/-- A level is presentable by R151. -/
theorem Attention.presentable_iff (a : Attention) (l : LevelId) : a.presentable l = true ↔
    a.levels[l].request = true ∧ a.levels[l].masked = false ∧ a.levels[l].inService = false ∧
      (a.openNesting = false → ∀ m : LevelId, a.levels[m].inService = true → rank a.lowest l < rank a.lowest m) := by
  have nested : (a.openNesting || (List.finRange 12).all fun m =>
        !a.levels[m].inService || decide (rank a.lowest l < rank a.lowest m)) = true ↔
      (a.openNesting = false → ∀ m : LevelId, a.levels[m].inService = true → rank a.lowest l < rank a.lowest m) := by
    cases a.openNesting
    · simp [List.all_eq_true, Bool.or_eq_true, imp_iff_not_or]
    · simp
  rw [Attention.presentable, Bool.and_eq_true, Bool.and_eq_true, Bool.and_eq_true, nested, Bool.not_eq_true', Bool.not_eq_true',
    and_assoc, and_assoc]

/-- Settles O54: each condition, each request, the rank and presentability are read from their own tables. -/
theorem requestsFollowTheTriggerMode : Obligations.RequestsFollowTheTriggerMode := by
  unfold Obligations.RequestsFollowTheTriggerMode
  refine ⟨fun s => ⟨?_, Iff.rfl, s.scale.alarm_iff, ?_, fun p l => ⟨fun h => ?_, fun h => ?_⟩⟩, fun k value => ⟨?_, ?_, ?_, ?_⟩,
    rank_eq_emod, Attention.presentable_iff⟩
  · rw [s.condition_zero]
    exact exists_congr fun p => (s.press p).faultCause_iff
  · have full : s.condition 3 = s.history.nearFull := rfl
    rw [full, History.nearFull_eq, decide_eq_true_iff]
  · rw [s.condition_unload p h, beq_iff_eq]
  · rw [s.condition_charge p h, beq_iff_eq]
  · exact k.handOn_of_level value
  · rintro edge low rfl armed
    exact k.handOn_of_rise edge low armed
  · rintro edge high rfl
    exact k.handOn_of_fall edge high
  · rintro edge rfl
    exact k.handOn_of_same edge

end Sys2Proof.Machine
